-- ==== Sys2Proof/Word.lean ====
section
/-! DEFINITION. The word types of the core: every value is an unsigned bit vector of stated width
(00_scope.md R16, R17), and the order of the pixels inside a packed byte (30_encoding.md R101). -/

namespace Sys2Proof

/-- A command word on the CMD port (30_encoding.md R100). -/
abbrev Word := BitVec 32

/-- One byte of PBUF or of the TX stream (20_memory.md R70). -/
abbrev Byte := BitVec 8

/-- A 16-bit datum: RSP_DATA, or a register's value as WREG and RREG see it (20_memory.md R73). -/
abbrev Datum := BitVec 16

/-- A command code or a bus address (41_address_encoder.md R130). -/
abbrev Nibble := BitVec 4

/-- One cell of the pixel memory: 1 is on, 0 is off (10_state.md R48). -/
abbrev Pixel := BitVec 1

/-- The ORD operand and the profiles' ORD column: 0 is LSB_FIRST, 1 is MSB_FIRST (30_encoding.md R101). -/
inductive BitOrder
  | lsbFirst
  | msbFirst
deriving DecidableEq, Repr, Inhabited

end Sys2Proof
end

