-- ==== Sys2Proof/Syntax.lean ====
section
/-! DEFINITION. The 28 commands of the opcode map (30_encoding.md R103), one constructor each, with the operands of
their formats (R101) in the assembler's order (R108). -/

namespace Sys2Proof

/-- A command of the core. A field operand has exactly its field's width, so the values a command refuses at execution
can still be written (30_encoding.md R107); the slice length N of PACK2 and PACK1 is a count. -/
inductive Instr
  | nop
  | wreg (reg : BitVec 8) (data : Datum)
  | rreg (reg : BitVec 8)
  | wpix (row col : BitVec 8) (v : Pixel)
  | rpix (row col : BitVec 8)
  | wpb (idx : BitVec 8) (byte : Byte)
  | rpb (idx : BitVec 8)
  | papp (imm : Byte)
  | pclr
  | srst
  | aenc (tag : BitVec 8) (adr : BitVec 8)
  | asplit (imm : Byte)
  | pack2 (row0 col : BitVec 8) (ord : BitOrder) (n : Nat)
  | pack1 (row0 col : BitVec 8) (ord : BitOrder) (n : Nat)
  | sbegin
  | snext
  | sabort
  | encbmp
  | encinit
  | binit
  | bdata (chunk col : BitVec 8)
  | csinit
  | csacc (imm : Byte)
  | csbuf
  | fopen
  | fput (imm : Byte)
  | fclose
  | fenc
deriving DecidableEq, Repr

end Sys2Proof
end

