-- ==== Sys2Proof/WellFormed.lean ====
section
/-! DEFINITION. Which terms of Instr have a command word. Every operand but one has its field's type; the slice length
of PACK2 and PACK1 is a count that the 7-bit field N bounds (30_encoding.md R101: "a slice length, 0..127 pixels"). -/

namespace Sys2Proof

/-- The field N holds the slice lengths 0..127 (30_encoding.md R101). -/
def sliceLengthFits (n : Nat) : Bool :=
  decide (n < 128)

/-- The instruction has a command word (log 12). -/
def Instr.wellFormed : Instr → Bool
  | .pack2 _ _ _ n => sliceLengthFits n
  | .pack1 _ _ _ n => sliceLengthFits n
  | .nop | .wreg _ _ | .rreg _ | .wpix _ _ _ | .rpix _ _ | .wpb _ _ | .rpb _ | .papp _ | .pclr | .srst => true
  | .aenc _ _ | .asplit _ | .sbegin | .snext | .sabort | .encbmp | .encinit | .binit | .bdata _ _ => true
  | .csinit | .csacc _ | .csbuf | .fopen | .fput _ | .fclose | .fenc => true

end Sys2Proof
end

