-- ==== Sys2Proof/Decode.lean ====
section
/-! DEFINITION. The command decoder, total on every 32-bit word and refusing by name (30_encoding.md R100 to R106), the
encoder written from the same tables, and the opcode map with its matches and masks (R103, R104). -/

namespace Sys2Proof

/-- Why a word spells no command. The core answers both with IllegalCommand. -/
inductive DecodeError
  /-- The OP byte is not in the opcode map (30_encoding.md R105). -/
  | unassignedOpcode
  /-- The OP byte is assigned, and a reserved or zero-by-rule bit is set (30_encoding.md R106). -/
  | reservedBits
deriving DecidableEq, Repr

/-! ### Fields (30_encoding.md R101) -/

/-- `OP = w[31:24]`. -/
def opField (w : Word) : BitVec 8 := w.extractLsb' 24 8

/-- `w[23:16]`: REG, ROW, ROW0, CHUNK; reserved in formats B, TA, PB. -/
def field23to16 (w : Word) : BitVec 8 := w.extractLsb' 16 8

/-- `w[15:8]`: TAG, COL, IDX; reserved in format B. -/
def field15to8 (w : Word) : BitVec 8 := w.extractLsb' 8 8

/-- `w[7:0]`: IMM8, ADR8, BYTE; reserved in format CK. -/
def field7to0 (w : Word) : BitVec 8 := w.extractLsb' 0 8

/-- `DATA16 = w[15:0]`. -/
def data16Field (w : Word) : Datum := w.extractLsb' 0 16

/-- `V = w[0]`. -/
def pixelField (w : Word) : Pixel := w.extractLsb' 0 1

/-- `ORD = w[7]`: 0 is LSB_FIRST, 1 is MSB_FIRST. -/
def ordField (w : Word) : BitOrder := if w.extractLsb' 7 1 = 0 then .lsbFirst else .msbFirst

/-- `N = w[6:0]`, a count of pixels. -/
def sliceLengthField (w : Word) : Nat := (w.extractLsb' 0 7).toNat

/-- The bit of the ORD field. -/
def ordBit : BitOrder → BitVec 1
  | .lsbFirst => 0
  | .msbFirst => 1

/-! ### Decoder -/

/-- The command, if the word's reserved bits are all zero (30_encoding.md R106). -/
def whenZero (reserved : Bool) (i : Instr) : Except DecodeError Instr :=
  if reserved then .ok i else .error .reservedBits

/-- Format N: `w[23:0]` is reserved. -/
def formatN (w : Word) (i : Instr) : Except DecodeError Instr :=
  whenZero (field23to16 w = 0 ∧ field15to8 w = 0 ∧ field7to0 w = 0) i

/-- Format B: `w[23:8]` is reserved. -/
def formatB (w : Word) (i : Byte → Instr) : Except DecodeError Instr :=
  whenZero (field23to16 w = 0 ∧ field15to8 w = 0) (i (field7to0 w))

/-- Formats TA and PB (WPB): `w[23:16]` is reserved, two byte operands follow. -/
def formatTwoBytes (w : Word) (i : BitVec 8 → BitVec 8 → Instr) : Except DecodeError Instr :=
  whenZero (field23to16 w = 0) (i (field15to8 w) (field7to0 w))

/-- Format RG of RREG: DATA16 is zero by rule (30_encoding.md R102). -/
def formatRegOnly (w : Word) (i : BitVec 8 → Instr) : Except DecodeError Instr :=
  whenZero (field15to8 w = 0 ∧ field7to0 w = 0) (i (field23to16 w))

/-- Format PX of WPIX: `w[7:1]` is reserved. -/
def formatPixel (w : Word) (i : BitVec 8 → BitVec 8 → Pixel → Instr) : Except DecodeError Instr :=
  whenZero (w.extractLsb' 1 7 = 0) (i (field23to16 w) (field15to8 w) (pixelField w))

/-- Formats PX of RPIX and CK: `w[7:0]` is zero. -/
def formatRowCol (w : Word) (i : BitVec 8 → BitVec 8 → Instr) : Except DecodeError Instr :=
  whenZero (field7to0 w = 0) (i (field23to16 w) (field15to8 w))

/-- Format PB of RPB: `w[23:16]` is reserved and BYTE is zero by rule (30_encoding.md R102). -/
def formatIndexOnly (w : Word) (i : BitVec 8 → Instr) : Except DecodeError Instr :=
  whenZero (field23to16 w = 0 ∧ field7to0 w = 0) (i (field15to8 w))

/-- The command a word spells (30_encoding.md R100, R103). -/
def decode (w : Word) : Except DecodeError Instr :=
  match (opField w).toNat with
  | 0x00 => formatN w .nop
  | 0x01 => .ok (.wreg (field23to16 w) (data16Field w))
  | 0x02 => formatRegOnly w .rreg
  | 0x03 => formatPixel w .wpix
  | 0x04 => formatRowCol w .rpix
  | 0x05 => formatTwoBytes w .wpb
  | 0x06 => formatIndexOnly w .rpb
  | 0x07 => formatB w .papp
  | 0x08 => formatN w .pclr
  | 0x0F => formatN w .srst
  | 0x10 => formatTwoBytes w .aenc
  | 0x11 => formatB w .asplit
  | 0x20 => .ok (.pack2 (field23to16 w) (field15to8 w) (ordField w) (sliceLengthField w))
  | 0x21 => .ok (.pack1 (field23to16 w) (field15to8 w) (ordField w) (sliceLengthField w))
  | 0x30 => formatN w .sbegin
  | 0x31 => formatN w .snext
  | 0x32 => formatN w .sabort
  | 0x33 => formatN w .encbmp
  | 0x34 => formatN w .encinit
  | 0x40 => formatN w .binit
  | 0x41 => formatRowCol w .bdata
  | 0x50 => formatN w .csinit
  | 0x51 => formatB w .csacc
  | 0x52 => formatN w .csbuf
  | 0x53 => formatN w .fopen
  | 0x54 => formatB w .fput
  | 0x55 => formatN w .fclose
  | 0x56 => formatN w .fenc
  | _ => .error .unassignedOpcode

/-! ### Encoder -/

/-- A word from its four bytes, most significant first: `[31:24] [23:16] [15:8] [7:0]` (30_encoding.md R101). -/
def wordOfBytes (op b2 b1 b0 : BitVec 8) : Word :=
  op ++ b2 ++ b1 ++ b0

/-- The low byte of format S: ORD in bit 7, N in bits 6..0. -/
def sliceByte (ord : BitOrder) (n : Nat) : BitVec 8 :=
  ordBit ord ++ BitVec.ofNat 7 n

/-- The low byte of format PX: seven zero bits, then V. -/
def pixelByte (v : Pixel) : BitVec 8 :=
  (0 : BitVec 7) ++ v

/-- The OP byte of a command (30_encoding.md R103). -/
def opcode : Instr → BitVec 8
  | .nop => 0x00
  | .wreg _ _ => 0x01
  | .rreg _ => 0x02
  | .wpix _ _ _ => 0x03
  | .rpix _ _ => 0x04
  | .wpb _ _ => 0x05
  | .rpb _ => 0x06
  | .papp _ => 0x07
  | .pclr => 0x08
  | .srst => 0x0F
  | .aenc _ _ => 0x10
  | .asplit _ => 0x11
  | .pack2 _ _ _ _ => 0x20
  | .pack1 _ _ _ _ => 0x21
  | .sbegin => 0x30
  | .snext => 0x31
  | .sabort => 0x32
  | .encbmp => 0x33
  | .encinit => 0x34
  | .binit => 0x40
  | .bdata _ _ => 0x41
  | .csinit => 0x50
  | .csacc _ => 0x51
  | .csbuf => 0x52
  | .fopen => 0x53
  | .fput _ => 0x54
  | .fclose => 0x55
  | .fenc => 0x56

/-- The command word of a well-formed instruction (30_encoding.md R101, R102, R103). -/
def encode (i : Instr) : Word :=
  match i with
  | .wreg reg data => opcode i ++ reg ++ data
  | .rreg reg => wordOfBytes (opcode i) reg 0 0
  | .wpix row col v => wordOfBytes (opcode i) row col (pixelByte v)
  | .rpix row col => wordOfBytes (opcode i) row col 0
  | .wpb idx byte => wordOfBytes (opcode i) 0 idx byte
  | .rpb idx => wordOfBytes (opcode i) 0 idx 0
  | .aenc tag adr => wordOfBytes (opcode i) 0 tag adr
  | .pack2 row0 col ord n => wordOfBytes (opcode i) row0 col (sliceByte ord n)
  | .pack1 row0 col ord n => wordOfBytes (opcode i) row0 col (sliceByte ord n)
  | .bdata chunk col => wordOfBytes (opcode i) chunk col 0
  | .papp imm => wordOfBytes (opcode i) 0 0 imm
  | .asplit imm => wordOfBytes (opcode i) 0 0 imm
  | .csacc imm => wordOfBytes (opcode i) 0 0 imm
  | .fput imm => wordOfBytes (opcode i) 0 0 imm
  | .nop | .pclr | .srst | .sbegin | .snext | .sabort | .encbmp | .encinit | .binit => wordOfBytes (opcode i) 0 0 0
  | .csinit | .csbuf | .fopen | .fclose | .fenc => wordOfBytes (opcode i) 0 0 0

/-! ### The opcode map as data -/

/-- One row of the opcode map: a word `w` spells the command exactly when `w & mask = match` (30_encoding.md R104). -/
structure OpcodeRow where
  mnemonic : String
  pattern : Word
  mask : Word
deriving DecidableEq, Repr

/-- The rows of the formats N. -/
def rowsN : List OpcodeRow :=
  [⟨"NOP", 0x00000000, 0xFFFFFFFF⟩, ⟨"PCLR", 0x08000000, 0xFFFFFFFF⟩, ⟨"SRST", 0x0F000000, 0xFFFFFFFF⟩,
   ⟨"SBEGIN", 0x30000000, 0xFFFFFFFF⟩, ⟨"SNEXT", 0x31000000, 0xFFFFFFFF⟩, ⟨"SABORT", 0x32000000, 0xFFFFFFFF⟩,
   ⟨"ENCBMP", 0x33000000, 0xFFFFFFFF⟩, ⟨"ENCINIT", 0x34000000, 0xFFFFFFFF⟩, ⟨"BINIT", 0x40000000, 0xFFFFFFFF⟩,
   ⟨"CSINIT", 0x50000000, 0xFFFFFFFF⟩, ⟨"CSBUF", 0x52000000, 0xFFFFFFFF⟩, ⟨"FOPEN", 0x53000000, 0xFFFFFFFF⟩,
   ⟨"FCLOSE", 0x55000000, 0xFFFFFFFF⟩, ⟨"FENC", 0x56000000, 0xFFFFFFFF⟩]

/-- The rows of the formats with operands. -/
def rowsWithOperands : List OpcodeRow :=
  [⟨"WREG", 0x01000000, 0xFF000000⟩, ⟨"RREG", 0x02000000, 0xFF00FFFF⟩, ⟨"WPIX", 0x03000000, 0xFF0000FE⟩,
   ⟨"RPIX", 0x04000000, 0xFF0000FF⟩, ⟨"WPB", 0x05000000, 0xFFFF0000⟩, ⟨"RPB", 0x06000000, 0xFFFF00FF⟩,
   ⟨"PAPP", 0x07000000, 0xFFFFFF00⟩, ⟨"AENC", 0x10000000, 0xFFFF0000⟩, ⟨"ASPLIT", 0x11000000, 0xFFFFFF00⟩,
   ⟨"PACK2", 0x20000000, 0xFF000000⟩, ⟨"PACK1", 0x21000000, 0xFF000000⟩, ⟨"BDATA", 0x41000000, 0xFF0000FF⟩,
   ⟨"CSACC", 0x51000000, 0xFFFFFF00⟩, ⟨"FPUT", 0x54000000, 0xFFFFFF00⟩]

/-- The opcode map with R104's masks, written independently of `decode` (30_encoding.md R103, R104). -/
def opcodeTable : List OpcodeRow :=
  rowsN ++ rowsWithOperands

/-- `w & mask = match` (30_encoding.md R104). -/
def OpcodeRow.spells (r : OpcodeRow) (w : Word) : Bool :=
  w &&& r.mask == r.pattern

/-- The mnemonic of a command, as the opcode map writes it (30_encoding.md R103). -/
def mnemonic : Instr → String
  | .nop => "NOP"
  | .wreg _ _ => "WREG"
  | .rreg _ => "RREG"
  | .wpix _ _ _ => "WPIX"
  | .rpix _ _ => "RPIX"
  | .wpb _ _ => "WPB"
  | .rpb _ => "RPB"
  | .papp _ => "PAPP"
  | .pclr => "PCLR"
  | .srst => "SRST"
  | .aenc _ _ => "AENC"
  | .asplit _ => "ASPLIT"
  | .pack2 _ _ _ _ => "PACK2"
  | .pack1 _ _ _ _ => "PACK1"
  | .sbegin => "SBEGIN"
  | .snext => "SNEXT"
  | .sabort => "SABORT"
  | .encbmp => "ENCBMP"
  | .encinit => "ENCINIT"
  | .binit => "BINIT"
  | .bdata _ _ => "BDATA"
  | .csinit => "CSINIT"
  | .csacc _ => "CSACC"
  | .csbuf => "CSBUF"
  | .fopen => "FOPEN"
  | .fput _ => "FPUT"
  | .fclose => "FCLOSE"
  | .fenc => "FENC"

/-! ### The host's numbering -/

/-- The command word whose low `nbits` bits are those of `w`, every higher bit zero. -/
def tableWord (nbits w : Nat) : Word :=
  BitVec.ofNat 32 (w % 2 ^ nbits)

/-- The instruction the decoder reads from a word of the opcode table; the CMD word is one parallel 32-bit word with
bit 0 its least significant (20_memory.md R73, 00_scope.md R16). -/
def decodeTableWord (nbits w : Nat) : Option Instr :=
  match decode (tableWord nbits w) with
  | .ok i => some i
  | .error _ => none

end Sys2Proof
end

