-- ==== Sys2Proof/Config.lean ====
section
/-! DEFINITION. What is fixed for one instance of the core and written by no command (10_state.md R52):
the size parameters (00_scope.md R9), the code parameters (R10), the init templates (R11) and the
parameters of the profile table (R12). The parameters the spec leaves OPEN have no value here. -/

namespace Sys2Proof

/-- The four device profiles, in the order of their PID (00_scope.md R12). -/
inductive Profile
  | fdLegacy
  | fdExt
  | led1
  | led2
deriving DecidableEq, Repr, Inhabited

/-- A chunk height is 8 or 16 rows (00_scope.md R12, PYFIS "chunk height (8 or 16)"). -/
inductive ChunkHeight
  | rows8
  | rows16
deriving DecidableEq, Repr, Inhabited

/-- One value for each profile: a column of the profile table (00_scope.md R12). -/
structure ProfileTable (α : Type) where
  fdLegacy : α
  fdExt : α
  led1 : α
  led2 : α
deriving DecidableEq, Repr

/-- The entry of a column for one profile. -/
def ProfileTable.at {α : Type} (t : ProfileTable α) : Profile → α
  | .fdLegacy => t.fdLegacy
  | .fdExt => t.fdExt
  | .led1 => t.led1
  | .led2 => t.led2

/-- The parameters the spec leaves OPEN (00_scope.md R10, R11, R12; 93 I11 to I14). -/
structure OpenParams where
  codeFdInit : Nibble
  codeFdData : Nibble
  codeLed1Data : Nibble
  codeLed2Data : Nibble
  codeLed1Init : Option Nibble
  codeLed2Init : Option Nibble
  tplFdLegacy : List Byte
  tplLed1 : List Byte
  tplLed2 : List Byte
  chLed1 : ChunkHeight
  chLed2 : ChunkHeight
deriving DecidableEq, Repr, Inhabited

/-- What the spec says of the OPEN parameters: within one profile the init code and the data code differ and the two
LED data codes differ (00_scope.md R10); the legacy template has 6 bytes and an LED template 0 to 16 (R11). -/
def OpenParams.legal (o : OpenParams) : Bool :=
  decide (o.codeFdInit ≠ o.codeFdData) && decide (o.codeLed1Data ≠ o.codeLed2Data)
    && decide (o.codeLed1Init ≠ some o.codeLed1Data) && decide (o.codeLed2Init ≠ some o.codeLed2Data)
    && decide (o.tplFdLegacy.length = 6) && decide (o.tplLed1.length ≤ 16) && decide (o.tplLed2.length ≤ 16)

/-- One set of OPEN parameters within the bounds, used only to make `legalised` total. -/
def OpenParams.inBounds : OpenParams :=
  { codeFdInit := 0, codeFdData := 1, codeLed1Data := 0, codeLed2Data := 1, codeLed1Init := none, codeLed2Init := none,
    tplFdLegacy := [0, 0, 0, 0, 0, 0], tplLed1 := [], tplLed2 := [], chLed1 := .rows8, chLed2 := .rows8 }

/-- Any legal set stays as it is. Applied to an opaque set it gives a set that can be every legal one and no other (log 2). -/
def OpenParams.legalised (o : OpenParams) : OpenParams :=
  if o.legal then o else .inBounds

/-- The constant parameters of one instance of the core. -/
structure Config where
  /-- `W_MAX`, 1..256 (00_scope.md R9). -/
  wMax : Nat
  /-- `H_MAX`, 1..256 (00_scope.md R9). -/
  hMax : Nat
  /-- `TRAIL[p]`: a data payload ends in a literal 0x00 (00_scope.md R12, 44_frame_builder.md R215). -/
  trail : ProfileTable Bool
  /-- `ORD[p]` (00_scope.md R12). -/
  ord : ProfileTable BitOrder
  /-- `INIT_PER_CHUNK[p]` (00_scope.md R12, 43_chunk_planner.md R181). -/
  initPerChunk : ProfileTable Bool
  /-- The OPEN parameters. -/
  params : OpenParams
deriving DecidableEq, Repr

/-- The legal instances: the ranges of 00_scope.md R9 and the constraints on the OPEN parameters. -/
def Config.legal (c : Config) : Bool :=
  decide (1 ≤ c.wMax) && decide (c.wMax ≤ 256) && decide (1 ≤ c.hMax) && decide (c.hMax ≤ 256) && c.params.legal

/-- FREE VALUE: the OPEN parameters of the device at hand. No source gives them (log 2). -/
opaque Config.openParams : OpenParams

/-- FREE VALUE: what a session would send as its command code were its profile without one. SBEGIN lets no such session
start (43_chunk_planner.md R183), so no run reaches a use of it (log 7). -/
opaque Config.unassignedCode : Nibble

/-- The instance that State.reset describes: the values the spec fixes for the parameters that have one
(00_scope.md R9, R12), and the free values for those that are OPEN (log 3). -/
def Config.device : Config :=
  { wMax := 256
    hMax := 256
    trail := { fdLegacy := true, fdExt := true, led1 := false, led2 := false }
    ord := { fdLegacy := .lsbFirst, fdExt := .lsbFirst, led1 := .msbFirst, led2 := .msbFirst }
    initPerChunk := { fdLegacy := false, fdExt := false, led1 := false, led2 := false }
    params := Config.openParams.legalised }

end Sys2Proof
end

