-- ==== Sys2Proof/Machine/State.lean ====
section
/-! DEFINITION. The whole state of the core (10_state.md R31 to R52), its value after power-on (70_reset_and_hazards.md
R340), and the reasons a step could stop. Plain data throughout. -/

namespace Sys2Proof.Machine

/-- A memory of `w`-bit cells: the (index, value) pairs of the cells that do not hold 0, indexes strictly rising
(log 8). With `w = 8` its entries are Host.Cell. -/
abbrev Memory (w : Nat) := List (Nat × BitVec w)

/-- FSTATE (10_state.md R42): 0 = IDLE, 1 = OPEN. -/
inductive FramerState
  | idle
  | opened
deriving DecidableEq, Repr

/-- SESSION.SST (10_state.md R43): 0 = IDLE, 1 = ACTIVE, 2 = DONE; "the value 3 is never held". -/
inductive SessionState
  | idle
  | active
  | done
deriving DecidableEq, Repr

/-- SESSION.PHASE (10_state.md R43): 0 = the next SNEXT frame is an init frame, 1 = a data frame. -/
inductive Phase
  | init
  | data
deriving DecidableEq, Repr

/-- The state of the core, of its three ports, and the instance's constants. -/
structure State where
  /-- The instance's constant parameters (10_state.md R52). No command writes them (log 1). -/
  cfg : Config
  /-- Port CMD (10_state.md R31): the words the host writes, the next one first (log 4). -/
  cmd : List Word
  /-- PROFILE.PID (10_state.md R34). -/
  pid : BitVec 2
  /-- PROFILE.PVALID (10_state.md R34). -/
  pvalid : BitVec 1
  /-- ADDR (10_state.md R35). -/
  addr : Nibble
  /-- WIDTH (10_state.md R36). -/
  width : BitVec 9
  /-- HEIGHT (10_state.md R37). -/
  height : BitVec 9
  /-- ACC (10_state.md R38). -/
  acc : Byte
  /-- CMDB (10_state.md R39). -/
  cmdb : Byte
  /-- PLEN (10_state.md R40). -/
  plen : BitVec 9
  /-- PBUF (10_state.md R41). -/
  pbuf : Memory 8
  /-- FSTATE (10_state.md R42). -/
  fstate : FramerState
  /-- SESSION.SST (10_state.md R43). -/
  sst : SessionState
  /-- SESSION.PHASE (10_state.md R43). -/
  phase : Phase
  /-- CCHUNK (10_state.md R44). -/
  cchunk : BitVec 8
  /-- CCOL (10_state.md R45). -/
  ccol : BitVec 8
  /-- S_PID (10_state.md R46). -/
  sPid : BitVec 2
  /-- S_ADDR (10_state.md R46). -/
  sAddr : Nibble
  /-- S_W (10_state.md R46). -/
  sW : BitVec 9
  /-- S_H (10_state.md R46). -/
  sH : BitVec 9
  /-- PIX (10_state.md R48). -/
  pix : Memory 1
  /-- RSP_STATUS (10_state.md R31, R50). -/
  rspStatus : BitVec 3
  /-- RSP_DATA (10_state.md R31, R50). -/
  rspData : Datum
  /-- TXLOG (10_state.md R31): the bytes emitted since power-on, oldest first. -/
  tx : List Byte
deriving DecidableEq, Repr

/-- The faults of the machine: none. "`fault` and `stuck` are not used: no item in this core halts or hangs"
(93_implementation_defined.md); an error is a response (60_exceptions.md R302). An empty type is safe: a step can claim
no fault (log 13). -/
inductive Fault
deriving DecidableEq, Repr

/-- The refusals of the machine. -/
inductive Refusal
  /-- Would be raised by an arm of `exec` for a command that has no meaning yet; no arm raises it. Safe: the model would
  stop where the core goes on. -/
  | notModelled (mnemonic : String)
deriving DecidableEq, Repr

/-- What a command ends in. -/
abbrev Result := Host.Outcome State Fault Refusal

/-- Power-on: every value is that of 70_reset_and_hazards.md R340. The instance is the device at hand (log 3); the host has
written no word yet (log 4). -/
def State.reset : State :=
  { cfg := Config.device
    cmd := []
    pid := 0
    pvalid := 0
    addr := 0
    width := 0
    height := 0
    acc := 0xFF
    cmdb := 0x00
    plen := 0
    pbuf := []
    fstate := .idle
    sst := .idle
    phase := .init
    cchunk := 0
    ccol := 0
    sPid := 0
    sAddr := 0
    sW := 0
    sH := 0
    pix := []
    rspStatus := 0
    rspData := 0
    tx := [] }

end Sys2Proof.Machine
end

