-- ==== Sys2Proof/Machine/Flags.lean ====
section
/-! DEFINITION. The status side of the core: the error kinds and their codes (60_exceptions.md R301), and what the read-only
status registers show of the framer and the session (10_state.md R42, R43, R50). -/

namespace Sys2Proof.Machine

/-- The error kinds, in the order of their codes (60_exceptions.md R301). -/
inductive CodecError
  | invalidAddress
  | unknownCommand
  | dimensionMismatch
  | emptyPayload
  | illegalCommand
  | sequenceError
  | payloadOverflow
deriving DecidableEq, Repr

/-- RSP_STATUS of a command that completed (60_exceptions.md R301, code 0). -/
def statusOk : BitVec 3 := 0

/-- RSP_STATUS of a failed command (60_exceptions.md R301). -/
def CodecError.code : CodecError → BitVec 3
  | .invalidAddress => 1
  | .unknownCommand => 2
  | .dimensionMismatch => 3
  | .emptyPayload => 4
  | .illegalCommand => 5
  | .sequenceError => 6
  | .payloadOverflow => 7

/-- The bit FSTATE[0] (10_state.md R42). -/
def FramerState.bit : FramerState → Datum
  | .idle => 0
  | .opened => 1

/-- The field SST = SESSION[1:0] (10_state.md R43). -/
def SessionState.bits : SessionState → Datum
  | .idle => 0
  | .active => 1
  | .done => 2

/-- The bit PHASE = SESSION[2], as a number (10_state.md R43). -/
def Phase.bit : Phase → Datum
  | .init => 0
  | .data => 1

/-- What SESSION reads as: `(PHASE << 2) | SST` (46_host_access.md R273). -/
def sessionWord (phase : Phase) (sst : SessionState) : Datum :=
  (phase.bit <<< 2) ||| sst.bits

/-- What PROFILE reads as: `(PVALID << 7) | PID` (46_host_access.md R273). -/
def profileWord (pvalid : BitVec 1) (pid : BitVec 2) : Datum :=
  (pvalid.setWidth 16 <<< 7) ||| pid.setWidth 16

/-- SNEXT's RSP_DATA: bit 15 says that the session goes on, the low bits are the frame's length (43_chunk_planner.md R185). -/
def nextFrameResponse (sst : SessionState) (frameLength : Nat) : Datum :=
  (if sst = .active then 0x8000 else 0) ||| BitVec.ofNat 16 frameLength

end Sys2Proof.Machine
end

