-- ==== Sys2Proof/Machine/Ops.lean ====
section
/-! DEFINITION. The named operations every meaning is built from: reading and writing a cell, the updates of State, the
two ways a command ends (completing, and raising an error: 60_exceptions.md R300, R302), and the CMD port. -/

namespace Sys2Proof.Machine

/-! ### Memory cells -/

/-- The value of a cell; a cell that is not listed holds 0 (70_reset_and_hazards.md R340, log 8). -/
def Memory.read {w : Nat} : Memory w → Nat → BitVec w
  | [], _ => 0
  | (b, v) :: rest, a => if a = b then v else Memory.read rest a

/-- The memory with the cell `a` at 0. -/
def Memory.erase {w : Nat} (m : Memory w) (a : Nat) : Memory w :=
  m.filter (fun c => c.1 != a)

/-- The memory with a cell listed at its place. -/
def Memory.insert {w : Nat} : Memory w → Nat → BitVec w → Memory w
  | [], a, v => [(a, v)]
  | (b, x) :: rest, a, v => if a < b then (a, v) :: (b, x) :: rest else (b, x) :: Memory.insert rest a v

/-- `M[a] <- v` (00_scope.md R18). Writing 0 takes the cell off the list. -/
def Memory.write {w : Nat} (m : Memory w) (a : Nat) (v : BitVec w) : Memory w :=
  if v = 0 then m.erase a else (m.erase a).insert a v

/-- `for i in 0 .. len-1: M[base + i] <- vs[i]`. -/
def Memory.writeList {w : Nat} : Memory w → Nat → List (BitVec w) → Memory w
  | m, _, [] => m
  | m, base, v :: vs => Memory.writeList (m.write base v) (base + 1) vs

/-- The canonical form of a memory of `size` cells: indexes strictly rising and inside the memory, no cell listed at 0. -/
abbrev Memory.wf {w : Nat} (size : Nat) (m : Memory w) : Prop :=
  m.Pairwise (fun c d => c.1 < d.1) ∧ ∀ c ∈ m, c.1 < size ∧ c.2 ≠ 0

/-- `P_MAX`, the size of PBUF (00_scope.md R9). -/
def pMax : Nat := 256

/-- `PIX_BITS = W_MAX * H_MAX` (00_scope.md R9). -/
def pixBits (c : Config) : Nat := c.wMax * c.hMax

/-! ### Updates of State -/

/-- Both fields of RSP (10_state.md R31: "Every command overwrites both fields"). -/
def State.respond (s : State) (status : BitVec 3) (data : Datum) : State :=
  { s with rspStatus := status, rspData := data }

/-- `Emit` of a list of bytes, in order (00_scope.md R18, 20_memory.md R72). -/
def State.emit (s : State) (bytes : List Byte) : State :=
  { s with tx := s.tx ++ bytes }

/-- `ACC <- v`. -/
def State.setAcc (s : State) (v : Byte) : State :=
  { s with acc := v }

/-- `CMDB <- v`. -/
def State.setCmdb (s : State) (v : Byte) : State :=
  { s with cmdb := v }

/-- `PLEN <- n`. -/
def State.setPlen (s : State) (n : Nat) : State :=
  { s with plen := BitVec.ofNat 9 n }

/-- `PBUF[base + i] <- bytes[i]` for every i. -/
def State.storePayload (s : State) (base : Nat) (bytes : List Byte) : State :=
  { s with pbuf := s.pbuf.writeList base bytes }

/-- `PIX[i] <- v`. -/
def State.storePixel (s : State) (i : Nat) (v : Pixel) : State :=
  { s with pix := s.pix.write i v }

/-- `FSTATE <- f`. -/
def State.setFstate (s : State) (f : FramerState) : State :=
  { s with fstate := f }

/-- The fields of PROFILE. -/
def State.setProfile (s : State) (pvalid : BitVec 1) (pid : BitVec 2) : State :=
  { s with pvalid := pvalid, pid := pid }

/-- `ADDR <- a`. -/
def State.setAddr (s : State) (a : Nibble) : State :=
  { s with addr := a }

/-- `WIDTH <- v`. -/
def State.setWidth (s : State) (v : BitVec 9) : State :=
  { s with width := v }

/-- `HEIGHT <- v`. -/
def State.setHeight (s : State) (v : BitVec 9) : State :=
  { s with height := v }

/-- The session state and the cursor (10_state.md R43, R44, R45). -/
def State.setCursor (s : State) (sst : SessionState) (phase : Phase) (chunk col : Nat) : State :=
  { s with sst := sst, phase := phase, cchunk := BitVec.ofNat 8 chunk, ccol := BitVec.ofNat 8 col }

/-- SBEGIN's latches (43_chunk_planner.md R183, 10_state.md R46). -/
def State.latchShadows (s : State) : State :=
  { s with sPid := s.pid, sAddr := s.addr, sW := s.width, sH := s.height }

/-- The words still to come on CMD. -/
def State.setCmd (s : State) (ws : List Word) : State :=
  { s with cmd := ws }

/-! ### Reading the payload -/

/-- `PBUF[i]` (20_memory.md R70). -/
def State.pbufByte (s : State) (i : Nat) : Byte :=
  s.pbuf.read i

/-- `PIX[i]` (20_memory.md R70). -/
def State.pixCell (s : State) (i : Nat) : Pixel :=
  s.pix.read i

/-- `PBUF[0..PLEN)`, the payload bytes of the RawFrame (10_state.md R41). -/
def State.payload (s : State) : List Byte :=
  (List.range s.plen.toNat).map s.pbufByte

/-- A RawFrame in its place: the command byte in CMDB, the payload in `PBUF[0..len)`, its length in PLEN
(44_frame_builder.md R212, R213; 43_chunk_planner.md R185). -/
def State.loadRaw (s : State) (cmd : Byte) (pl : List Byte) : State :=
  ((s.setCmdb cmd).storePayload 0 pl).setPlen pl.length

/-- Bytes appended at PBUF[PLEN], PLEN moved past them (42_pixel_packer.md R155, 46_host_access.md R278). -/
def State.appendPayload (s : State) (bytes : List Byte) : State :=
  (s.storePayload s.plen.toNat bytes).setPlen (s.plen.toNat + bytes.length)

/-! ### How a command ends -/

/-- The command completes: RSP_STATUS is OK and RSP_DATA its result (60_exceptions.md R300). -/
def complete (data : Datum) (s : State) : Result :=
  .next (s.respond statusOk data)

/-- `raise E`, the core's whole exception mechanism: "RSP_STATUS <- code(E) and RSP_DATA <- 0. No other register, field,
memory or cursor changes, and no TX byte is emitted" (60_exceptions.md R302; no trap entry: R308; no return: R309). -/
def raise (e : CodecError) (s : State) : Result :=
  .next (s.respond e.code 0)

/-! ### Reset -/

/-- Every register, field and memory at its reset value; TXLOG is not shortened (46_host_access.md R280,
70_reset_and_hazards.md R340), the instance and the words the host has yet to write stay (log 10). -/
def State.softReset (s : State) : State :=
  { State.reset with cfg := s.cfg, cmd := s.cmd, tx := s.tx }

/-! ### The CMD port -/

/-- The next word on CMD, and the state once the core has accepted it (10_state.md R31, R33). -/
def fetch (s : State) : Option (Word × State) :=
  match s.cmd with
  | [] => none
  | w :: rest => some (w, s.setCmd rest)

/-- The host writes a word: it is the next the core accepts (log 5). -/
def State.present (s : State) (w : Word) : State :=
  s.setCmd (w :: s.cmd)

/-- No word on CMD: nothing happens (log 4). -/
def awaitCommand (s : State) : Result :=
  .next s

end Sys2Proof.Machine
end

