-- ==== Sys2Proof/Machine/Profile.lean ====
section
/-! DEFINITION. The profile table (00_scope.md R12), the code map (R14), the data tags (R15) and the init templates (R11)
as functions of the instance's parameters. -/

namespace Sys2Proof.Machine

/-- The encoding column ENC of the profile table (00_scope.md R12). -/
inductive PixelEncoding
  | twoBits
  | oneBit
deriving DecidableEq, Repr

/-- The profile a PID names (00_scope.md R12). -/
def profileOf (pid : BitVec 2) : Profile :=
  if pid = 0 then .fdLegacy else if pid = 1 then .fdExt else if pid = 2 then .led1 else .led2

/-- ENC[p] (00_scope.md R12). -/
def encodingOf : Profile → PixelEncoding
  | .fdLegacy => .twoBits
  | .fdExt => .twoBits
  | .led1 => .oneBit
  | .led2 => .oneBit

/-- The number of rows of a chunk height. -/
def rowsOf : ChunkHeight → Nat
  | .rows8 => 8
  | .rows16 => 16

/-- CH[p] (00_scope.md R12). -/
def chunkHeight (c : Config) : Profile → Nat
  | .fdLegacy => 8
  | .fdExt => 16
  | .led1 => rowsOf c.params.chLed1
  | .led2 => rowsOf c.params.chLed2

/-- `TPL_FD_EXT` (00_scope.md R11). -/
def templateFdExt : List Byte := [0x00, 0x10, 0x00, 0x50, 0x00, 0x02, 0x2E]

/-- The init payload `TPL[p]` (00_scope.md R11, 44_frame_builder.md R210). -/
def initPayload (c : Config) : Profile → List Byte
  | .fdLegacy => c.params.tplFdLegacy
  | .fdExt => templateFdExt
  | .led1 => c.params.tplLed1
  | .led2 => c.params.tplLed2

/-- The init code column of the profile table (00_scope.md R12). -/
def initCode (c : Config) : Profile → Option Nibble
  | .fdLegacy => some c.params.codeFdInit
  | .fdExt => some c.params.codeFdInit
  | .led1 => c.params.codeLed1Init
  | .led2 => c.params.codeLed2Init

/-- `code(p, 1)`: FlipDotColumnData (00_scope.md R14). -/
def flipDotDataCode (c : Config) : Profile → Option Nibble
  | .fdLegacy => some c.params.codeFdData
  | .fdExt => some c.params.codeFdData
  | .led1 => none
  | .led2 => none

/-- `code(p, 2)`: LedBitmapData (00_scope.md R14). -/
def ledDataCode (c : Config) : Profile → Option Nibble
  | .fdLegacy => none
  | .fdExt => none
  | .led1 => some c.params.codeLed1Data
  | .led2 => some c.params.codeLed2Data

/-- The command tags (00_scope.md R13). -/
def tagInit : BitVec 8 := 0
def tagFlipDotColumnData : BitVec 8 := 1
def tagLedBitmapData : BitVec 8 := 2

/-- The code map `code(p, tag)` (00_scope.md R14). -/
def code (c : Config) (p : Profile) (tag : BitVec 8) : Option Nibble :=
  if tag = tagInit then initCode c p
  else if tag = tagFlipDotColumnData then flipDotDataCode c p
  else if tag = tagLedBitmapData then ledDataCode c p
  else none

/-- `dataTag(p)` (00_scope.md R15). -/
def dataTag : Profile → BitVec 8
  | .fdLegacy => tagFlipDotColumnData
  | .fdExt => tagFlipDotColumnData
  | .led1 => tagLedBitmapData
  | .led2 => tagLedBitmapData

/-- `code(p, dataTag(p))`, the profile's data code. -/
def dataCode (c : Config) (p : Profile) : Option Nibble :=
  code c p (dataTag p)

end Sys2Proof.Machine
end

