-- ==== Sys2Proof/Machine/Codec.lean ====
section
/-! DEFINITION. The pure functions of the codec: nibble merge and split (41_address_encoder.md R130, R131), slices and
packing (42_pixel_packer.md R150 to R159), payloads (44_frame_builder.md R210, R214), checksum, escaping and frames
(45_frame_encoder.md R230 to R232), the session plan (43_chunk_planner.md R180 to R182), and the spec's reference
functions that are no command (42 R158, 45 R246; log 16). -/

namespace Sys2Proof.Machine

/-! ### Command byte -/

/-- `merge(k, a) = (k << 4) | a` (41_address_encoder.md R130). -/
def merge (k a : Nibble) : Byte :=
  (k.setWidth 8 <<< 4) ||| a.setWidth 8

/-- `b[7:4]`, the command code of a command byte (41_address_encoder.md R131). -/
def codeNibble (b : Byte) : Nibble := b.extractLsb' 4 4

/-- `b[3:0]`, the address of a command byte (41_address_encoder.md R131). -/
def addressNibble (b : Byte) : Nibble := b.extractLsb' 0 4

/-! ### Packing -/

/-- `ceil(a / b) = (a + b - 1) div b` (00_scope.md R17). -/
def ceilDiv (a b : Nat) : Nat :=
  (a + b - 1) / b

/-- `pixAt(Wd, Ht, r, c)`: pixels outside the bitmap are off (10_state.md R49). -/
def pixAt (pix : Memory 1) (wd ht r c : Nat) : Pixel :=
  if r < ht ∧ c < wd then pix.read (r * wd + c) else 0

/-- `slice(Wd, Ht, c, row0, n)`: a column's pixels, top first (42_pixel_packer.md R150). -/
def slice (pix : Memory 1) (wd ht c row0 n : Nat) : List Pixel :=
  (List.range n).map (fun i => pixAt pix wd ht (row0 + i) c)

/-- `i < n and P[i] = 1`, pixel i of a slice being on. -/
def isOn (ps : List Pixel) (i : Nat) : Bool :=
  ps.getD i 0 == 1

/-- The bit that marks pixel k of a byte on, at 2 bits per pixel (42_pixel_packer.md R152). -/
def onMask2 (o : BitOrder) (k : Nat) : Byte :=
  match o with
  | .lsbFirst => 1 <<< (2 * k)
  | .msbFirst => 1 <<< (6 - 2 * k)

/-- The bit that marks pixel k of a byte on, at 1 bit per pixel (42_pixel_packer.md R153). -/
def onMask1 (o : BitOrder) (k : Nat) : Byte :=
  match o with
  | .lsbFirst => 1 <<< k
  | .msbFirst => 1 <<< (7 - k)

/-- Byte j of `pack2`: every field starts as the OFF code `10`; an on pixel sets its low bit (42_pixel_packer.md R151, R154). -/
def pack2Byte (ps : List Pixel) (o : BitOrder) (j : Nat) : Byte :=
  (List.range 4).foldl (fun b k => if isOn ps (4 * j + k) then b ||| onMask2 o k else b) 0xAA

/-- Byte j of `pack1` (42_pixel_packer.md R153, R154). -/
def pack1Byte (ps : List Pixel) (o : BitOrder) (j : Nat) : Byte :=
  (List.range 8).foldl (fun b k => if isOn ps (8 * j + k) then b ||| onMask1 o k else b) 0x00

/-- `pack2(P, o)`, ceil(n/4) bytes (42_pixel_packer.md R154). -/
def pack2 (ps : List Pixel) (o : BitOrder) : List Byte :=
  (List.range (ceilDiv ps.length 4)).map (pack2Byte ps o)

/-- `pack1(P, o)`, ceil(n/8) bytes (42_pixel_packer.md R154). -/
def pack1 (ps : List Pixel) (o : BitOrder) : List Byte :=
  (List.range (ceilDiv ps.length 8)).map (pack1Byte ps o)

/-- `packP(p, P)` (42_pixel_packer.md R159). -/
def packP (c : Config) (p : Profile) (ps : List Pixel) : List Byte :=
  match encodingOf p with
  | .twoBits => pack2 ps (c.ord.at p)
  | .oneBit => pack1 ps (c.ord.at p)

/-- Reference inverse of `pack2`, pixel i (42_pixel_packer.md R158). -/
def unpack2Pixel (bs : List Byte) (o : BitOrder) (i : Nat) : Pixel :=
  (bs.getD (i / 4) 0).extractLsb' (match o with | .lsbFirst => 2 * (i % 4) | .msbFirst => 6 - 2 * (i % 4)) 1

/-- Reference inverse of `pack2` (42_pixel_packer.md R158). -/
def unpack2 (bs : List Byte) (o : BitOrder) (n : Nat) : List Pixel :=
  (List.range n).map (unpack2Pixel bs o)

/-- Reference inverse of `pack1`, pixel i (42_pixel_packer.md R158). -/
def unpack1Pixel (bs : List Byte) (o : BitOrder) (i : Nat) : Pixel :=
  (bs.getD (i / 8) 0).extractLsb' (match o with | .lsbFirst => i % 8 | .msbFirst => 7 - i % 8) 1

/-- Reference inverse of `pack1` (42_pixel_packer.md R158). -/
def unpack1 (bs : List Byte) (o : BitOrder) (n : Nat) : List Pixel :=
  (List.range n).map (unpack1Pixel bs o)

/-! ### Data payload -/

/-- The literal trailing byte of a profile that has one (44_frame_builder.md R215). -/
def trailer (c : Config) (p : Profile) : List Byte :=
  if c.trail.at p then [0x00] else []

/-- `dataPayload(p, Wd, Ht, c, k)` (44_frame_builder.md R214, R216). -/
def dataPayload (c : Config) (pix : Memory 1) (p : Profile) (wd ht col chunk : Nat) : List Byte :=
  [BitVec.ofNat 8 col]
    ++ packP c p (slice pix wd ht col (chunk * chunkHeight c p) (chunkHeight c p))
    ++ trailer c p

/-! ### Checksum and line code -/

/-- The start and stop marker (45_frame_encoder.md R232). -/
def marker : Byte := 0x7E

/-- The escape byte (45_frame_encoder.md R230). -/
def escapeByte : Byte := 0x7D

/-- `esc(b)` (45_frame_encoder.md R230). -/
def esc (b : Byte) : List Byte :=
  if b = 0x7E then [0x7D, 0x5E] else if b = 0x7D then [0x7D, 0x5D] else [b]

/-- `escL(L)`, one left-to-right pass (45_frame_encoder.md R233, R244). -/
def escL (l : List Byte) : List Byte :=
  l.flatMap esc

/-- `csum(L)`: the XOR fold from 0xFF (45_frame_encoder.md R231). -/
def csum (l : List Byte) : Byte :=
  l.foldl (fun a b => a ^^^ b) 0xFF

/-- The body of a frame: command byte, payload, checksum (45_frame_encoder.md R232). -/
def frameBody (cmd : Byte) (pl : List Byte) : List Byte :=
  [cmd] ++ pl ++ [csum ([cmd] ++ pl)]

/-- `wire(cmd, pl)` (45_frame_encoder.md R232). -/
def wire (cmd : Byte) (pl : List Byte) : List Byte :=
  [marker] ++ escL (frameBody cmd pl) ++ [marker]

/-- `unesc`, the reference inverse of `escL`; `none` is the spec's `invalid` (45_frame_encoder.md R246). -/
def unesc : List Byte → Option (List Byte)
  | [] => some []
  | [b] => if b = 0x7D ∨ b = 0x7E then none else some [b]
  | b :: d :: t =>
    if b = 0x7D then
      if d = 0x5E then (unesc t).map (fun r => 0x7E :: r)
      else if d = 0x5D then (unesc t).map (fun r => 0x7D :: r)
      else none
    else if b = 0x7E then none
    else (unesc (d :: t)).map (fun r => b :: r)

/-! ### Session plan -/

/-- `nchunks(Ht, CH)` (43_chunk_planner.md R180). -/
def nchunks (ht ch : Nat) : Nat :=
  ceilDiv ht ch

/-- The number of chunks of a bitmap of height `ht` in a profile. -/
def chunksOf (c : Config) (p : Profile) (ht : Nat) : Nat :=
  nchunks ht (chunkHeight c p)

/-- `frameCount(p, Wd, Ht)` (43_chunk_planner.md R182). -/
def frameCount (c : Config) (p : Profile) (wd ht : Nat) : Nat :=
  chunksOf c p ht * wd + (if c.initPerChunk.at p then chunksOf c p ht else 1)

/-- The command byte of a session's frames with a code that SBEGIN checked (43_chunk_planner.md R183); the free value is
never reached (log 7). -/
def sessionCommandByte (k : Option Nibble) (a : Nibble) : Byte :=
  merge (k.getD Config.unassignedCode) a

/-- `initFrame` of a session (43_chunk_planner.md R181). -/
def initFrame (c : Config) (p : Profile) (a : Nibble) : List Byte :=
  wire (sessionCommandByte (initCode c p) a) (initPayload c p)

/-- `dataFrame(c, k)` of a session (43_chunk_planner.md R181). -/
def dataFrame (c : Config) (pix : Memory 1) (p : Profile) (a : Nibble) (wd ht col chunk : Nat) : List Byte :=
  wire (sessionCommandByte (dataCode c p) a) (dataPayload c pix p wd ht col chunk)

/-- The frames of chunk k: an init frame before the first chunk, or before each if INIT_PER_CHUNK says so, then a data
frame for each column (43_chunk_planner.md R181). -/
def chunkFrames (c : Config) (pix : Memory 1) (p : Profile) (a : Nibble) (wd ht k : Nat) : List (List Byte) :=
  (if k = 0 ∨ c.initPerChunk.at p = true then [initFrame c p a] else [])
    ++ (List.range wd).map (fun col => dataFrame c pix p a wd ht col k)

/-- `sessionFrames(p, A, Wd, Ht)`, the reference the cursor walk is held to (43_chunk_planner.md R181, log 16). -/
def sessionFrames (c : Config) (pix : Memory 1) (p : Profile) (a : Nibble) (wd ht : Nat) : List (List Byte) :=
  (List.range (chunksOf c p ht)).flatMap (chunkFrames c pix p a wd ht)

/-! ### Data-command test -/

/-- `requiresData(b)` (45_frame_encoder.md R248). -/
def requiresData (s : State) (b : Byte) : Bool :=
  s.pvalid == 1 && dataCode s.cfg (profileOf s.pid) == some (codeNibble b)

end Sys2Proof.Machine
end

