-- ==== Sys2Proof/Machine/Operands.lean ====
section
/-! DEFINITION. The operand forms: register numbers with what a read shows and a write checks and does (10_state.md R51,
46_host_access.md R272, R273), pixel operands (R274), and slice operands (42_pixel_packer.md R155). -/

namespace Sys2Proof.Machine

/-- The registers of the register map (10_state.md R51). -/
inductive Reg
  | profile
  | addr
  | width
  | height
  | acc
  | cmdb
  | plen
  | fstate
  | session
  | cchunk
  | ccol
  | sPid
  | sAddr
  | sW
  | sH
deriving DecidableEq, Repr

/-- The register numbers 0x00..0x0E in order (10_state.md R51). -/
def registerMap : List Reg :=
  [.profile, .addr, .width, .height, .acc, .cmdb, .plen, .fstate, .session, .cchunk, .ccol, .sPid, .sAddr, .sW, .sH]

/-- The register a REG operand names; numbers 0x0F..0xFF are unassigned (10_state.md R51). -/
def regOf (n : BitVec 8) : Option Reg :=
  registerMap[n.toNat]?

/-- `readReg`: the register's fields at their places, reserved bits 0 (46_host_access.md R273, 10_state.md R51). -/
def readReg (s : State) : Reg → Datum
  | .profile => profileWord s.pvalid s.pid
  | .addr => s.addr.setWidth 16
  | .width => s.width.setWidth 16
  | .height => s.height.setWidth 16
  | .acc => s.acc.setWidth 16
  | .cmdb => s.cmdb.setWidth 16
  | .plen => s.plen.setWidth 16
  | .fstate => s.fstate.bit
  | .session => sessionWord s.phase s.sst
  | .cchunk => s.cchunk.setWidth 16
  | .ccol => s.ccol.setWidth 16
  | .sPid => s.sPid.setWidth 16
  | .sAddr => s.sAddr.setWidth 16
  | .sW => s.sW.setWidth 16
  | .sH => s.sH.setWidth 16

/-- A value checked against its largest legal value; it is rejected, not truncated (46_host_access.md R272). -/
def checkedWrite (d : Datum) (largest : Nat) (e : CodecError) (t : State) : Except CodecError State :=
  if d.toNat > largest then .error e else .ok t

/-- WREG's value check and write (46_host_access.md R272). A read-only register is IllegalCommand (R271). -/
def writeReg (s : State) (d : Datum) : Reg → Except CodecError State
  | .profile => .ok (s.setProfile (d.extractLsb' 7 1) (d.extractLsb' 0 2))
  | .addr => checkedWrite d 15 .invalidAddress (s.setAddr (d.extractLsb' 0 4))
  | .width => checkedWrite d s.cfg.wMax .dimensionMismatch (s.setWidth (d.extractLsb' 0 9))
  | .height => checkedWrite d s.cfg.hMax .dimensionMismatch (s.setHeight (d.extractLsb' 0 9))
  | .acc => .ok (s.setAcc (d.extractLsb' 0 8))
  | .cmdb => .ok (s.setCmdb (d.extractLsb' 0 8))
  | .plen => checkedWrite d pMax .payloadOverflow (s.setPlen d.toNat)
  | .fstate => .error .illegalCommand
  | .session => .error .illegalCommand
  | .cchunk => .error .illegalCommand
  | .ccol => .error .illegalCommand
  | .sPid => .error .illegalCommand
  | .sAddr => .error .illegalCommand
  | .sW => .error .illegalCommand
  | .sH => .error .illegalCommand

/-- A pixel operand inside the configured bitmap (46_host_access.md R274). -/
def pixelInside (s : State) (row col : BitVec 8) : Bool :=
  decide (row.toNat < s.height.toNat) && decide (col.toNat < s.width.toNat)

/-- The cell of a pixel operand, `ROW * WIDTH + COL` (46_host_access.md R274, 20_memory.md R71). -/
def cellIndex (s : State) (row col : BitVec 8) : Nat :=
  row.toNat * s.width.toNat + col.toNat

/-- The slice operand of PACK2 and PACK1, `slice(WIDTH, HEIGHT, COL, ROW0, N)` (42_pixel_packer.md R155). -/
def sliceOperand (s : State) (row0 col : BitVec 8) (n : Nat) : List Pixel :=
  slice s.pix s.width.toNat s.height.toNat col.toNat row0.toNat n

/-- The profile the PROFILE register names (00_scope.md R12). -/
def State.activeProfile (s : State) : Profile :=
  profileOf s.pid

/-- The profile of the session (10_state.md R46). -/
def State.sessionProfile (s : State) : Profile :=
  profileOf s.sPid

end Sys2Proof.Machine
end

