-- ==== Sys2Proof/Machine/AddressEncoder.lean ====
section
/-! DEFINITION. The command/address encoder: AENC and ASPLIT (41_address_encoder.md R130 to R134). -/

namespace Sys2Proof.Machine

/-- The code of a tag in the active profile; none when no profile is set (41_address_encoder.md R132, 92 D31). -/
def State.activeCode (s : State) (tag : BitVec 8) : Option Nibble :=
  if s.pvalid = 0 then none else code s.cfg s.activeProfile tag

/-- AENC TAG, ADR8 (41_address_encoder.md R132). -/
def execAenc (tag : BitVec 8) (adr : BitVec 8) (s : State) : Result :=
  if adr.toNat > 15 then raise .invalidAddress s
  else
    match s.activeCode tag with
    | none => raise .unknownCommand s
    | some k => complete ((merge k (adr.extractLsb' 0 4)).setWidth 16) (s.setCmdb (merge k (adr.extractLsb' 0 4)))

/-- `(zext_16(IMM8[7:4]) << 8) | zext_16(IMM8[3:0])` (41_address_encoder.md R133). -/
def splitWord (b : Byte) : Datum :=
  ((codeNibble b).setWidth 16 <<< 8) ||| (addressNibble b).setWidth 16

/-- ASPLIT IMM8 (41_address_encoder.md R133). -/
def execAsplit (imm : Byte) (s : State) : Result :=
  complete (splitWord imm) s

end Sys2Proof.Machine
end

