-- ==== Sys2Proof/Machine/FrameBuilder.lean ====
section
/-! DEFINITION. The frame builder: BINIT and BDATA (44_frame_builder.md R212, R213). They emit nothing (R217). -/

namespace Sys2Proof.Machine

/-- BINIT's writes with the init code `k` (44_frame_builder.md R212). -/
def State.buildInit (s : State) (k : Nibble) : State :=
  s.loadRaw (merge k s.addr) (initPayload s.cfg s.activeProfile)

/-- BINIT (44_frame_builder.md R212). -/
def execBinit (s : State) : Result :=
  match s.activeCode tagInit with
  | none => raise .unknownCommand s
  | some k => complete (BitVec.ofNat 16 (initPayload s.cfg s.activeProfile).length) (s.buildInit k)

/-- The bitmap has no such column of such a chunk: no profile is set, the bitmap is empty, or the column or the chunk lies
outside it (44_frame_builder.md R213). -/
def outsideBitmap (s : State) (chunk col : BitVec 8) : Bool :=
  decide (s.pvalid = 0) || decide (s.width = 0) || decide (s.height = 0) || decide (col.toNat ≥ s.width.toNat)
    || decide (chunk.toNat ≥ chunksOf s.cfg s.activeProfile s.height.toNat)

/-- The data payload BDATA builds from the configured bitmap (44_frame_builder.md R213, R214). -/
def bitmapPayload (s : State) (chunk col : BitVec 8) : List Byte :=
  dataPayload s.cfg s.pix s.activeProfile s.width.toNat s.height.toNat col.toNat chunk.toNat

/-- BDATA CHUNK, COL (44_frame_builder.md R213). -/
def execBdata (chunk col : BitVec 8) (s : State) : Result :=
  if outsideBitmap s chunk col then raise .dimensionMismatch s
  else
    match dataCode s.cfg s.activeProfile with
    | none => raise .unknownCommand s
    | some k =>
      complete (BitVec.ofNat 16 (bitmapPayload s chunk col).length)
        (s.loadRaw (merge k s.addr) (bitmapPayload s chunk col))

end Sys2Proof.Machine
end

