-- ==== Sys2Proof/Machine/FrameEncoder.lean ====
section
/-! DEFINITION. The checksum accumulator and the line-code frame encoder: CSINIT, CSACC, CSBUF, FOPEN, FPUT, FCLOSE, FENC
(45_frame_encoder.md R235 to R241). -/

namespace Sys2Proof.Machine

/-- A whole WireFrame is emitted and ACC is left at its checksum (45_frame_encoder.md R241, 43_chunk_planner.md R185). -/
def State.sendFrame (s : State) (cmd : Byte) (pl : List Byte) : State :=
  (s.emit (wire cmd pl)).setAcc (csum ([cmd] ++ pl))

/-- The RawFrame of CMDB and PBUF[0..PLEN) is sent (45_frame_encoder.md R241). -/
def State.sendRaw (s : State) : State :=
  s.sendFrame s.cmdb s.payload

/-- The length of the WireFrame of CMDB and PBUF[0..PLEN). -/
def State.rawFrameLength (s : State) : Nat :=
  (wire s.cmdb s.payload).length

/-- CSINIT (45_frame_encoder.md R235). -/
def execCsinit (s : State) : Result :=
  if s.fstate = .opened then raise .sequenceError s
  else complete 0x00FF (s.setAcc 0xFF)

/-- CSACC IMM8 (45_frame_encoder.md R236). -/
def execCsacc (imm : Byte) (s : State) : Result :=
  if s.fstate = .opened then raise .sequenceError s
  else complete ((s.acc ^^^ imm).setWidth 16) (s.setAcc (s.acc ^^^ imm))

/-- CSBUF (45_frame_encoder.md R237). -/
def execCsbuf (s : State) : Result :=
  if s.fstate = .opened then raise .sequenceError s
  else complete ((csum ([s.cmdb] ++ s.payload)).setWidth 16) (s.setAcc (csum ([s.cmdb] ++ s.payload)))

/-- FOPEN (45_frame_encoder.md R238). -/
def execFopen (s : State) : Result :=
  if s.fstate = .opened then raise .sequenceError s
  else complete 0 (((s.emit [marker]).setAcc 0xFF).setFstate .opened)

/-- FPUT IMM8 (45_frame_encoder.md R239). -/
def execFput (imm : Byte) (s : State) : Result :=
  if s.fstate = .idle then raise .sequenceError s
  else complete ((s.acc ^^^ imm).setWidth 16) ((s.emit (esc imm)).setAcc (s.acc ^^^ imm))

/-- FCLOSE (45_frame_encoder.md R240). -/
def execFclose (s : State) : Result :=
  if s.fstate = .idle then raise .sequenceError s
  else complete (s.acc.setWidth 16) ((s.emit (esc s.acc ++ [marker])).setFstate .idle)

/-- FENC (45_frame_encoder.md R241). -/
def execFenc (s : State) : Result :=
  if s.fstate = .opened then raise .sequenceError s
  else if s.plen = 0 ∧ requiresData s s.cmdb = true then raise .emptyPayload s
  else complete (BitVec.ofNat 16 s.rawFrameLength) s.sendRaw

end Sys2Proof.Machine
end

