-- ==== Sys2Proof/Machine/ChunkPlanner.lean ====
section
/-! DEFINITION. The chunk planner and the session commands: SBEGIN, SNEXT, SABORT, ENCBMP, ENCINIT (43_chunk_planner.md R183
to R188). -/

namespace Sys2Proof.Machine

/-- SBEGIN's checks, in its order; ENCBMP applies the same (43_chunk_planner.md R183, R187). -/
def sessionError (s : State) : Option CodecError :=
  if s.fstate = .opened then some .sequenceError
  else if s.pvalid = 0 ∨ s.width = 0 ∨ s.height = 0 then some .dimensionMismatch
  else if (initCode s.cfg s.activeProfile).isNone ∨ (dataCode s.cfg s.activeProfile).isNone then some .unknownCommand
  else none

/-- SBEGIN's writes: the latches, then a fresh cursor (43_chunk_planner.md R183). -/
def State.startSession (s : State) : State :=
  s.latchShadows.setCursor .active .init 0 0

/-- `frameCount(PID, WIDTH, HEIGHT)` (43_chunk_planner.md R183). -/
def sessionLength (s : State) : Nat :=
  frameCount s.cfg s.activeProfile s.width.toNat s.height.toNat

/-- SBEGIN (43_chunk_planner.md R183). -/
def execSbegin (s : State) : Result :=
  match sessionError s with
  | some e => raise e s
  | none => complete (BitVec.ofNat 16 (sessionLength s)) s.startSession

/-- The command byte of the session's next frame (43_chunk_planner.md R185). -/
def nextCommandByte (s : State) : Byte :=
  match s.phase with
  | .init => sessionCommandByte (initCode s.cfg s.sessionProfile) s.sAddr
  | .data => sessionCommandByte (dataCode s.cfg s.sessionProfile) s.sAddr

/-- The payload of the session's next frame (43_chunk_planner.md R185). -/
def nextPayload (s : State) : List Byte :=
  match s.phase with
  | .init => initPayload s.cfg s.sessionProfile
  | .data => dataPayload s.cfg s.pix s.sessionProfile s.sW.toNat s.sH.toNat s.ccol.toNat s.cchunk.toNat

/-- The session's next WireFrame. -/
def nextFrame (s : State) : List Byte :=
  wire (nextCommandByte s) (nextPayload s)

/-- After an init frame only PHASE changes (43_chunk_planner.md R184). -/
def State.afterInitFrame (s : State) : State :=
  s.setCursor s.sst .data s.cchunk.toNat s.ccol.toNat

/-- After a data frame: the next column, or the next chunk, or the end of the session (43_chunk_planner.md R184). -/
def State.afterDataFrame (s : State) : State :=
  if s.ccol.toNat + 1 < s.sW.toNat then s.setCursor s.sst s.phase s.cchunk.toNat (s.ccol.toNat + 1)
  else if s.cchunk.toNat + 1 = chunksOf s.cfg s.sessionProfile s.sH.toNat then
    s.setCursor .done s.phase (s.cchunk.toNat + 1) 0
  else if s.cfg.initPerChunk.at s.sessionProfile then s.setCursor s.sst .init (s.cchunk.toNat + 1) 0
  else s.setCursor s.sst s.phase (s.cchunk.toNat + 1) 0

/-- The cursor's advance past the frame just sent (43_chunk_planner.md R184). -/
def State.advance (s : State) : State :=
  match s.phase with
  | .init => s.afterInitFrame
  | .data => s.afterDataFrame

/-- All that SNEXT writes but the response: the RawFrame, the WireFrame, ACC and the cursor (43_chunk_planner.md R185). -/
def State.sendNext (s : State) : State :=
  ((s.loadRaw (nextCommandByte s) (nextPayload s)).sendFrame (nextCommandByte s) (nextPayload s)).advance

/-- SNEXT (43_chunk_planner.md R185). -/
def execSnext (s : State) : Result :=
  if s.fstate = .opened ∨ s.sst ≠ .active then raise .sequenceError s
  else complete (nextFrameResponse s.sendNext.sst (nextFrame s).length) s.sendNext

/-- SABORT (43_chunk_planner.md R186): the shadows and FSTATE keep their values. -/
def execSabort (s : State) : Result :=
  complete 0 (s.setCursor .idle .init 0 0)

/-- `while SST = ACTIVE: perform SNEXT`, at most `fuel` frames: the state at the end and the number of frames sent
(43_chunk_planner.md R187). A session has frameCount frames, so that much fuel never runs out (log 6). -/
def runSession : Nat → State → State × Nat
  | 0, s => (s, 0)
  | fuel + 1, s =>
    if s.sst = .active then
      match runSession fuel s.sendNext with
      | (t, n) => (t, n + 1)
    else (s, 0)

/-- ENCBMP (43_chunk_planner.md R187). -/
def execEncbmp (s : State) : Result :=
  match sessionError s with
  | some e => raise e s
  | none =>
    match runSession (sessionLength s) s.startSession with
    | (t, n) => complete (BitVec.ofNat 16 n) t

/-- ENCINIT (43_chunk_planner.md R188): BINIT's writes, then FENC's writes and emission. -/
def execEncinit (s : State) : Result :=
  if s.fstate = .opened then raise .sequenceError s
  else
    match s.activeCode tagInit with
    | none => raise .unknownCommand s
    | some k => complete (BitVec.ofNat 16 (s.buildInit k).rawFrameLength) (s.buildInit k).sendRaw

end Sys2Proof.Machine
end

