-- ==== Sys2Proof/Machine/HostAccess.lean ====
section
/-! DEFINITION. The host access commands: NOP, WREG, RREG, WPIX, RPIX, WPB, RPB, PAPP, PCLR, SRST (46_host_access.md R270 to
R280). -/

namespace Sys2Proof.Machine

/-- NOP (46_host_access.md R270). -/
def execNop (s : State) : Result :=
  complete 0 s

/-- WREG REG, DATA16 (46_host_access.md R271, R272): the response is the register's value after the write. -/
def execWreg (reg : BitVec 8) (data : Datum) (s : State) : Result :=
  match regOf reg with
  | none => raise .illegalCommand s
  | some r =>
    match writeReg s data r with
    | .error e => raise e s
    | .ok t => complete (readReg t r) t

/-- RREG REG (46_host_access.md R273). -/
def execRreg (reg : BitVec 8) (s : State) : Result :=
  match regOf reg with
  | none => raise .illegalCommand s
  | some r => complete (readReg s r) s

/-- WPIX ROW, COL, V (46_host_access.md R274). -/
def execWpix (row col : BitVec 8) (v : Pixel) (s : State) : Result :=
  if pixelInside s row col then complete (v.setWidth 16) (s.storePixel (cellIndex s row col) v)
  else raise .dimensionMismatch s

/-- RPIX ROW, COL (46_host_access.md R275). -/
def execRpix (row col : BitVec 8) (s : State) : Result :=
  if pixelInside s row col then complete ((s.pixCell (cellIndex s row col)).setWidth 16) s
  else raise .dimensionMismatch s

/-- WPB IDX, BYTE (46_host_access.md R276). -/
def execWpb (idx : BitVec 8) (byte : Byte) (s : State) : Result :=
  complete (byte.setWidth 16) (s.storePayload idx.toNat [byte])

/-- RPB IDX (46_host_access.md R277). -/
def execRpb (idx : BitVec 8) (s : State) : Result :=
  complete ((s.pbufByte idx.toNat).setWidth 16) s

/-- PAPP IMM8 (46_host_access.md R278): the response is PLEN after the append. -/
def execPapp (imm : Byte) (s : State) : Result :=
  if s.plen.toNat = pMax then raise .payloadOverflow s
  else complete ((s.appendPayload [imm]).plen.setWidth 16) (s.appendPayload [imm])

/-- PCLR (46_host_access.md R279). -/
def execPclr (s : State) : Result :=
  complete 0 (s.setPlen 0)

/-- SRST (46_host_access.md R280). -/
def execSrst (s : State) : Result :=
  complete 0 s.softReset

end Sys2Proof.Machine
end

