-- ==== Sys2Proof/Machine/PixelPacker.lean ====
section
/-! DEFINITION. The pixel bit-packer's commands: PACK2 and PACK1 (42_pixel_packer.md R155, R156). -/

namespace Sys2Proof.Machine

/-- What PACK2 and PACK1 share: the column check, the room check, the append, the byte count as the response
(42_pixel_packer.md R155, R156). -/
def packColumn (col : BitVec 8) (bytes : List Byte) (s : State) : Result :=
  if col.toNat ≥ s.width.toNat then raise .dimensionMismatch s
  else if s.plen.toNat + bytes.length > pMax then raise .payloadOverflow s
  else complete (BitVec.ofNat 16 bytes.length) (s.appendPayload bytes)

/-- PACK2 ROW0, COL, ORD, N (42_pixel_packer.md R155). -/
def execPack2 (row0 col : BitVec 8) (ord : BitOrder) (n : Nat) (s : State) : Result :=
  packColumn col (pack2 (sliceOperand s row0 col n) ord) s

/-- PACK1 ROW0, COL, ORD, N (42_pixel_packer.md R156). -/
def execPack1 (row0 col : BitVec 8) (ord : BitOrder) (n : Nat) (s : State) : Result :=
  packColumn col (pack1 (sliceOperand s row0 col n) ord) s

end Sys2Proof.Machine
end

