-- ==== Sys2Proof/Machine/Dispatch.lean ====
section
/-! DEFINITION. One arm per command: which meaning runs (30_encoding.md R103). -/

namespace Sys2Proof.Machine

/-- The effect of a command. -/
def exec (i : Instr) (s : State) : Host.Outcome State Fault Refusal :=
  match i with
  | .nop => Sys2Proof.Machine.execNop s
  | .wreg reg data => Sys2Proof.Machine.execWreg reg data s
  | .rreg reg => Sys2Proof.Machine.execRreg reg s
  | .wpix row col v => Sys2Proof.Machine.execWpix row col v s
  | .rpix row col => Sys2Proof.Machine.execRpix row col s
  | .wpb idx byte => Sys2Proof.Machine.execWpb idx byte s
  | .rpb idx => Sys2Proof.Machine.execRpb idx s
  | .papp imm => Sys2Proof.Machine.execPapp imm s
  | .pclr => Sys2Proof.Machine.execPclr s
  | .srst => Sys2Proof.Machine.execSrst s
  | .aenc tag adr => Sys2Proof.Machine.execAenc tag adr s
  | .asplit imm => Sys2Proof.Machine.execAsplit imm s
  | .pack2 row0 col ord n => Sys2Proof.Machine.execPack2 row0 col ord n s
  | .pack1 row0 col ord n => Sys2Proof.Machine.execPack1 row0 col ord n s
  | .sbegin => Sys2Proof.Machine.execSbegin s
  | .snext => Sys2Proof.Machine.execSnext s
  | .sabort => Sys2Proof.Machine.execSabort s
  | .encbmp => Sys2Proof.Machine.execEncbmp s
  | .encinit => Sys2Proof.Machine.execEncinit s
  | .binit => Sys2Proof.Machine.execBinit s
  | .bdata chunk col => Sys2Proof.Machine.execBdata chunk col s
  | .csinit => Sys2Proof.Machine.execCsinit s
  | .csacc imm => Sys2Proof.Machine.execCsacc imm s
  | .csbuf => Sys2Proof.Machine.execCsbuf s
  | .fopen => Sys2Proof.Machine.execFopen s
  | .fput imm => Sys2Proof.Machine.execFput imm s
  | .fclose => Sys2Proof.Machine.execFclose s
  | .fenc => Sys2Proof.Machine.execFenc s

end Sys2Proof.Machine
end

