-- ==== Sys2Proof/Machine/Accept.lean ====
section
/-! DEFINITION. What the core does with a word it has accepted on CMD: it runs the command the word spells, or raises
IllegalCommand (30_encoding.md R100, R105, R106). -/

namespace Sys2Proof.Machine

/-- The effect of an accepted word. A word that spells no command raises IllegalCommand "and has no other effect"
(30_encoding.md R105, R106). -/
def accept (w : Word) (s : State) : Result :=
  match decode w with
  | .ok i => exec i s
  | .error _ => raise .illegalCommand s

end Sys2Proof.Machine
end

