-- ==== Sys2Proof/Machine/Step.lean ====
section
/-! DEFINITION. One step: the core accepts the next word on CMD and runs it (00_scope.md R8, 10_state.md R33). -/

namespace Sys2Proof.Machine

/-- One step of the core. With no word on CMD nothing happens (log 4). -/
def step (s : State) : Host.Outcome State Fault Refusal :=
  match fetch s with
  | none => awaitCommand s
  | some (w, t) => accept w t

/-- The state in which the host has written the word `w` (of `nbits` bits of the opcode table, every higher bit zero) on
CMD, ahead of the words already there: the very next step accepts it (log 5). -/
def State.withFetchWord (s : State) (nbits w : Nat) : State :=
  s.present (tableWord nbits w)

end Sys2Proof.Machine
end

