-- ==== Sys2Proof/Safety.lean ====
section
/-! DEFINITION. The terms the statements use: the invariant of every reachable state, the errors a command can raise
(60_exceptions.md R304), which commands write which state (10_state.md, 20_memory.md R70), and runs of commands. -/

namespace Sys2Proof.Machine

/-! ### The invariant -/

/-- What the cursor and the shadows hold, by session state (10_state.md R43 to R46; 43_chunk_planner.md R183, R184, R186). -/
def State.SessionInv (s : State) : Prop :=
  match s.sst with
  | .idle => s.phase = .init ∧ s.cchunk = 0 ∧ s.ccol = 0
  | .active =>
    0 < s.sW.toNat ∧ 0 < s.sH.toNat
      ∧ (initCode s.cfg s.sessionProfile).isSome ∧ (dataCode s.cfg s.sessionProfile).isSome
      ∧ s.cchunk.toNat < chunksOf s.cfg s.sessionProfile s.sH.toNat ∧ s.ccol.toNat < s.sW.toNat
      ∧ (s.phase = .init →
          s.ccol = 0 ∧ (s.cchunk = 0 ∨ s.cfg.initPerChunk.at s.sessionProfile = true))
  | .done =>
    s.phase = .data ∧ s.cchunk.toNat = chunksOf s.cfg s.sessionProfile s.sH.toNat ∧ s.ccol = 0

/-- What holds at power-on and after every step, of every legal instance. -/
structure State.Inv (s : State) : Prop where
  /-- The parameters are legal (00_scope.md R9, R10, R11). -/
  config : s.cfg.legal = true
  /-- "Legal values are 0..`W_MAX`" (10_state.md R36). -/
  width : s.width.toNat ≤ s.cfg.wMax
  /-- The same of HEIGHT (10_state.md R37). -/
  height : s.height.toNat ≤ s.cfg.hMax
  /-- PLEN is 0..P_MAX (10_state.md R40). -/
  plen : s.plen.toNat ≤ pMax
  /-- PBUF is in canonical form and inside its 256 bytes (10_state.md R41). -/
  pbuf : s.pbuf.wf pMax
  /-- PIX is in canonical form and inside its W_MAX * H_MAX cells (10_state.md R48). -/
  pix : s.pix.wf (pixBits s.cfg)
  /-- The latched dimensions are within the same bounds (10_state.md R46). -/
  shadowWidth : s.sW.toNat ≤ s.cfg.wMax
  shadowHeight : s.sH.toNat ≤ s.cfg.hMax
  /-- The cursor (10_state.md R43 to R45). -/
  session : s.SessionInv
  /-- RSP_DATA is 0 on an error (60_exceptions.md R302). -/
  response : s.rspStatus ≠ 0 → s.rspData = 0

/-! ### Errors of a command -/

/-- The errors each command can raise beyond IllegalCommand for its word (60_exceptions.md R304). -/
def errorsOf : Instr → List CodecError
  | .nop | .wpb _ _ | .rpb _ | .pclr | .srst | .asplit _ | .sabort => []
  | .wreg _ _ => [.illegalCommand, .invalidAddress, .dimensionMismatch, .payloadOverflow]
  | .rreg _ => [.illegalCommand]
  | .wpix _ _ _ | .rpix _ _ => [.dimensionMismatch]
  | .papp _ => [.payloadOverflow]
  | .aenc _ _ => [.invalidAddress, .unknownCommand]
  | .pack2 _ _ _ _ | .pack1 _ _ _ _ => [.dimensionMismatch, .payloadOverflow]
  | .sbegin | .encbmp => [.sequenceError, .dimensionMismatch, .unknownCommand]
  | .snext => [.sequenceError]
  | .encinit => [.sequenceError, .unknownCommand]
  | .binit => [.unknownCommand]
  | .bdata _ _ => [.dimensionMismatch, .unknownCommand]
  | .csinit | .csacc _ | .csbuf | .fopen => [.sequenceError]
  | .fput _ | .fclose => [.sequenceError]
  | .fenc => [.sequenceError, .emptyPayload]

/-! ### Which commands write which state -/

/-- The commands that emit on TX (20_memory.md R70). -/
def emitsBytes : Instr → Bool
  | .fopen | .fput _ | .fclose | .fenc | .snext | .encinit | .encbmp => true
  | .nop | .wreg _ _ | .rreg _ | .wpix _ _ _ | .rpix _ _ | .wpb _ _ | .rpb _ | .papp _ | .pclr | .srst
    | .aenc _ _ | .asplit _ | .pack2 _ _ _ _ | .pack1 _ _ _ _ | .sbegin | .sabort | .binit | .bdata _ _
    | .csinit | .csacc _ | .csbuf => false

/-- The commands that write PROFILE, ADDR, WIDTH or HEIGHT (10_state.md R34 to R37, 46_host_access.md R272, R280). -/
def writesConfiguration : Instr → Bool
  | .wreg _ _ | .srst => true
  | .nop | .rreg _ | .wpix _ _ _ | .rpix _ _ | .wpb _ _ | .rpb _ | .papp _ | .pclr | .aenc _ _ | .asplit _
    | .pack2 _ _ _ _ | .pack1 _ _ _ _ | .sbegin | .snext | .sabort | .encbmp | .encinit | .binit
    | .bdata _ _ | .csinit | .csacc _ | .csbuf | .fopen | .fput _ | .fclose | .fenc => false

/-- The commands that write ACC (10_state.md R38, 46_host_access.md R280). -/
def writesAccumulator : Instr → Bool
  | .fopen | .csinit | .csbuf | .fenc | .snext | .encinit | .encbmp | .csacc _ | .fput _ | .wreg _ _ | .srst => true
  | .nop | .rreg _ | .wpix _ _ _ | .rpix _ _ | .wpb _ _ | .rpb _ | .papp _ | .pclr | .aenc _ _ | .asplit _
    | .pack2 _ _ _ _ | .pack1 _ _ _ _ | .sbegin | .sabort | .binit | .bdata _ _ | .fclose => false

/-- The commands that write CMDB (10_state.md R39, 46_host_access.md R280). -/
def writesCommandByte : Instr → Bool
  | .aenc _ _ | .binit | .bdata _ _ | .snext | .encinit | .encbmp | .wreg _ _ | .srst => true
  | .nop | .rreg _ | .wpix _ _ _ | .rpix _ _ | .wpb _ _ | .rpb _ | .papp _ | .pclr | .asplit _ | .pack2 _ _ _ _
    | .pack1 _ _ _ _ | .sbegin | .sabort | .csinit | .csacc _ | .csbuf | .fopen | .fput _ | .fclose
    | .fenc => false

/-- The commands that write a byte of PBUF (20_memory.md R70, less those that only read it; 46_host_access.md R280). -/
def writesPayload : Instr → Bool
  | .wpb _ _ | .papp _ | .pack2 _ _ _ _ | .pack1 _ _ _ _ | .binit | .bdata _ _ | .snext | .encinit | .encbmp
  | .srst => true
  | .nop | .wreg _ _ | .rreg _ | .wpix _ _ _ | .rpix _ _ | .rpb _ | .pclr | .aenc _ _ | .asplit _
    | .sbegin | .sabort | .csinit | .csacc _ | .csbuf | .fopen | .fput _ | .fclose | .fenc => false

/-- The commands that write PLEN: those that build a payload, and PCLR and WREG (10_state.md R40). -/
def writesPayloadLength : Instr → Bool
  | .papp _ | .pack2 _ _ _ _ | .pack1 _ _ _ _ | .binit | .bdata _ _ | .snext | .encinit | .encbmp | .pclr
  | .wreg _ _ | .srst => true
  | .nop | .rreg _ | .wpix _ _ _ | .rpix _ _ | .wpb _ _ | .rpb _ | .aenc _ _ | .asplit _ | .sbegin
    | .sabort | .csinit | .csacc _ | .csbuf | .fopen | .fput _ | .fclose | .fenc => false

/-- The commands that write a cell of PIX (20_memory.md R70, 46_host_access.md R274, R280). -/
def writesPixels : Instr → Bool
  | .wpix _ _ _ | .srst => true
  | .nop | .wreg _ _ | .rreg _ | .rpix _ _ | .wpb _ _ | .rpb _ | .papp _ | .pclr | .aenc _ _ | .asplit _
    | .pack2 _ _ _ _ | .pack1 _ _ _ _ | .sbegin | .snext | .sabort | .encbmp | .encinit | .binit
    | .bdata _ _ | .csinit | .csacc _ | .csbuf | .fopen | .fput _ | .fclose | .fenc => false

/-- The commands that open or close a hand-built frame (10_state.md R42, 46_host_access.md R280). -/
def writesFramer : Instr → Bool
  | .fopen | .fclose | .srst => true
  | .nop | .wreg _ _ | .rreg _ | .wpix _ _ _ | .rpix _ _ | .wpb _ _ | .rpb _ | .papp _ | .pclr | .aenc _ _
    | .asplit _ | .pack2 _ _ _ _ | .pack1 _ _ _ _ | .sbegin | .snext | .sabort | .encbmp | .encinit
    | .binit | .bdata _ _ | .csinit | .csacc _ | .csbuf | .fput _ | .fenc => false

/-- The commands that move the session's cursor or state (10_state.md R33, R43; 43_chunk_planner.md; 46_host_access.md R280). -/
def writesCursor : Instr → Bool
  | .sbegin | .snext | .sabort | .encbmp | .srst => true
  | .nop | .wreg _ _ | .rreg _ | .wpix _ _ _ | .rpix _ _ | .wpb _ _ | .rpb _ | .papp _ | .pclr | .aenc _ _
    | .asplit _ | .pack2 _ _ _ _ | .pack1 _ _ _ _ | .encinit | .binit | .bdata _ _ | .csinit | .csacc _
    | .csbuf | .fopen | .fput _ | .fclose | .fenc => false

/-- The commands that write the shadows (10_state.md R46, 43_chunk_planner.md R187, 46_host_access.md R280). -/
def writesShadows : Instr → Bool
  | .sbegin | .encbmp | .srst => true
  | .nop | .wreg _ _ | .rreg _ | .wpix _ _ _ | .rpix _ _ | .wpb _ _ | .rpb _ | .papp _ | .pclr | .aenc _ _
    | .asplit _ | .pack2 _ _ _ _ | .pack1 _ _ _ _ | .snext | .sabort | .encinit | .binit | .bdata _ _
    | .csinit | .csacc _ | .csbuf | .fopen | .fput _ | .fclose | .fenc => false

/-- The commands an open hand-built frame locks out (70_reset_and_hazards.md R345). -/
def lockedByOpenFrame : Instr → Bool
  | .fopen | .fenc | .sbegin | .snext | .encbmp | .encinit | .csinit | .csacc _ | .csbuf => true
  | .nop | .wreg _ _ | .rreg _ | .wpix _ _ _ | .rpix _ _ | .wpb _ _ | .rpb _ | .papp _ | .pclr | .srst
    | .aenc _ _ | .asplit _ | .pack2 _ _ _ _ | .pack1 _ _ _ _ | .sabort | .binit | .bdata _ _ | .fput _
    | .fclose => false

/-! ### Runs of commands -/

/-- Commands one after another, each in the state the one before it left (20_memory.md R79). -/
def execAll : List Instr → State → Result
  | [], s => .next s
  | i :: is, s =>
    match exec i s with
    | .next t => execAll is t
    | .fault r => .fault r
    | .refused r => .refused r

/-- The commands of `FRAME b0, b1, ..., bn` (30_encoding.md R109). -/
def frameCommands (bytes : List Byte) : List Instr :=
  [.fopen] ++ bytes.map .fput ++ [.fclose]

end Sys2Proof.Machine
end

