-- ==== Sys2Proof/Certificates/Slice0/Obligations.lean ====
section
/-! DEFINITION. The statements about the core. In a command's statement RSP_STATUS is written as the code of 60_exceptions.md
R301, and `t = { s with …, pbuf := t.pbuf }` says the frame: every field not named is as it was, and the clause after it
says what each byte of PBUF reads as. -/

open Sys2Proof Sys2Proof.Machine

/-! ### Host access commands -/

/-- R270: NOP answers 0 and changes nothing else; its word is all zero. -/
def Obligations.NopChangesOnlyTheResponse : Prop :=
  decode 0x00000000 = .ok .nop
    ∧ ∀ s : State, exec .nop s = .next { s with rspStatus := 0, rspData := 0 }

/-- R271, R272: WREG refuses an unassigned or read-only register and an out-of-range value; else it writes the register's
bits alone and answers the register's value after the write. -/
def Obligations.WregChecksThenWritesTheRegister : Prop :=
  (∀ (reg : BitVec 8) (d : Datum), decode ((0x01 : BitVec 8) ++ reg ++ d) = .ok (.wreg reg d))
    ∧ ∀ (s : State) (d : Datum),
      (∀ reg : BitVec 8, 7 ≤ reg.toNat → exec (.wreg reg d) s = .next { s with rspStatus := 5, rspData := 0 })
      ∧ exec (.wreg 0x00 d) s = .next { s with
          pid := d.extractLsb' 0 2, pvalid := d.extractLsb' 7 1, rspStatus := 0, rspData := d &&& 0x0083 }
      ∧ (15 < d.toNat → exec (.wreg 0x01 d) s = .next { s with rspStatus := 1, rspData := 0 })
      ∧ (d.toNat ≤ 15 → exec (.wreg 0x01 d) s = .next { s with addr := d.setWidth 4, rspStatus := 0, rspData := d })
      ∧ (s.cfg.wMax < d.toNat → exec (.wreg 0x02 d) s = .next { s with rspStatus := 3, rspData := 0 })
      ∧ (d.toNat ≤ s.cfg.wMax → exec (.wreg 0x02 d) s = .next { s with
          width := d.setWidth 9, rspStatus := 0, rspData := (d.setWidth 9).setWidth 16 })
      ∧ (s.cfg.hMax < d.toNat → exec (.wreg 0x03 d) s = .next { s with rspStatus := 3, rspData := 0 })
      ∧ (d.toNat ≤ s.cfg.hMax → exec (.wreg 0x03 d) s = .next { s with
          height := d.setWidth 9, rspStatus := 0, rspData := (d.setWidth 9).setWidth 16 })
      ∧ exec (.wreg 0x04 d) s = .next { s with acc := d.setWidth 8, rspStatus := 0, rspData := d &&& 0x00FF }
      ∧ exec (.wreg 0x05 d) s = .next { s with cmdb := d.setWidth 8, rspStatus := 0, rspData := d &&& 0x00FF }
      ∧ (256 < d.toNat → exec (.wreg 0x06 d) s = .next { s with rspStatus := 7, rspData := 0 })
      ∧ (d.toNat ≤ 256 → exec (.wreg 0x06 d) s = .next { s with plen := d.setWidth 9, rspStatus := 0, rspData := d })

/-- R273: RREG answers each register's fields at their bit positions, reserved bits 0, and refuses the numbers
0x0F..0xFF. -/
def Obligations.RregAnswersEachRegister : Prop :=
  (∀ reg : BitVec 8, decode ((0x02 : BitVec 8) ++ reg ++ (0 : BitVec 8) ++ (0 : BitVec 8)) = .ok (.rreg reg))
    ∧ ∀ s : State,
      (∀ reg : BitVec 8, 0x0F ≤ reg.toNat → exec (.rreg reg) s = .next { s with rspStatus := 5, rspData := 0 })
      ∧ exec (.rreg 0x00) s = .next { s with
          rspStatus := 0, rspData := (0 : BitVec 8) ++ s.pvalid ++ (0 : BitVec 5) ++ s.pid }
      ∧ exec (.rreg 0x01) s = .next { s with rspStatus := 0, rspData := (0 : BitVec 12) ++ s.addr }
      ∧ exec (.rreg 0x02) s = .next { s with rspStatus := 0, rspData := (0 : BitVec 7) ++ s.width }
      ∧ exec (.rreg 0x03) s = .next { s with rspStatus := 0, rspData := (0 : BitVec 7) ++ s.height }
      ∧ exec (.rreg 0x04) s = .next { s with rspStatus := 0, rspData := (0 : BitVec 8) ++ s.acc }
      ∧ exec (.rreg 0x05) s = .next { s with rspStatus := 0, rspData := (0 : BitVec 8) ++ s.cmdb }
      ∧ exec (.rreg 0x06) s = .next { s with rspStatus := 0, rspData := (0 : BitVec 7) ++ s.plen }
      ∧ exec (.rreg 0x07) s = .next { s with rspStatus := 0, rspData := if s.fstate = .opened then 1 else 0 }
      ∧ exec (.rreg 0x08) s = .next { s with
          rspStatus := 0
          rspData := (if s.phase = .data then 4 else 0)
            + (if s.sst = .active then 1 else if s.sst = .done then 2 else 0) }
      ∧ exec (.rreg 0x09) s = .next { s with rspStatus := 0, rspData := (0 : BitVec 8) ++ s.cchunk }
      ∧ exec (.rreg 0x0A) s = .next { s with rspStatus := 0, rspData := (0 : BitVec 8) ++ s.ccol }
      ∧ exec (.rreg 0x0B) s = .next { s with rspStatus := 0, rspData := (0 : BitVec 14) ++ s.sPid }
      ∧ exec (.rreg 0x0C) s = .next { s with rspStatus := 0, rspData := (0 : BitVec 12) ++ s.sAddr }
      ∧ exec (.rreg 0x0D) s = .next { s with rspStatus := 0, rspData := (0 : BitVec 7) ++ s.sW }
      ∧ exec (.rreg 0x0E) s = .next { s with rspStatus := 0, rspData := (0 : BitVec 7) ++ s.sH }

/-- R274: WPIX writes the one cell ROW * WIDTH + COL, and refuses a pixel outside the configured bitmap. -/
def Obligations.WpixWritesOneCell : Prop :=
  (∀ (row col : BitVec 8) (v : Pixel),
      decode ((0x03 : BitVec 8) ++ row ++ col ++ ((0 : BitVec 7) ++ v)) = .ok (.wpix row col v))
    ∧ ∀ (s : State) (row col : BitVec 8) (v : Pixel),
      (s.height.toNat ≤ row.toNat ∨ s.width.toNat ≤ col.toNat →
        exec (.wpix row col v) s = .next { s with rspStatus := 3, rspData := 0 })
      ∧ (row.toNat < s.height.toNat ∧ col.toNat < s.width.toNat →
        ∃ t, exec (.wpix row col v) s = .next t
          ∧ t = { s with pix := t.pix, rspStatus := 0, rspData := (0 : BitVec 15) ++ v }
          ∧ ∀ a, t.pixCell a = if a = row.toNat * s.width.toNat + col.toNat then v else s.pixCell a)

/-- R275: RPIX answers the cell ROW * WIDTH + COL, and refuses a pixel outside the configured bitmap. -/
def Obligations.RpixAnswersOneCell : Prop :=
  (∀ row col : BitVec 8, decode ((0x04 : BitVec 8) ++ row ++ col ++ (0 : BitVec 8)) = .ok (.rpix row col))
    ∧ ∀ (s : State) (row col : BitVec 8),
      (s.height.toNat ≤ row.toNat ∨ s.width.toNat ≤ col.toNat →
        exec (.rpix row col) s = .next { s with rspStatus := 3, rspData := 0 })
      ∧ (row.toNat < s.height.toNat ∧ col.toNat < s.width.toNat →
        exec (.rpix row col) s = .next { s with
          rspStatus := 0, rspData := (0 : BitVec 15) ++ s.pixCell (row.toNat * s.width.toNat + col.toNat) })

/-- R276: WPB writes the one byte PBUF[IDX]; PLEN is unchanged. -/
def Obligations.WpbWritesOneByte : Prop :=
  (∀ idx byte : BitVec 8, decode ((0x05 : BitVec 8) ++ (0 : BitVec 8) ++ idx ++ byte) = .ok (.wpb idx byte))
    ∧ ∀ (s : State) (idx byte : BitVec 8),
      ∃ t, exec (.wpb idx byte) s = .next t
        ∧ t = { s with pbuf := t.pbuf, rspStatus := 0, rspData := (0 : BitVec 8) ++ byte }
        ∧ ∀ a, t.pbufByte a = if a = idx.toNat then byte else s.pbufByte a

/-- R277: RPB answers PBUF[IDX], also beyond PLEN. -/
def Obligations.RpbAnswersOneByte : Prop :=
  (∀ idx : BitVec 8, decode ((0x06 : BitVec 8) ++ (0 : BitVec 8) ++ idx ++ (0 : BitVec 8)) = .ok (.rpb idx))
    ∧ ∀ (s : State) (idx : BitVec 8),
      exec (.rpb idx) s = .next { s with rspStatus := 0, rspData := (0 : BitVec 8) ++ s.pbufByte idx.toNat }

/-- R278: PAPP appends one byte at PBUF[PLEN] and answers the new PLEN; a full buffer refuses it. -/
def Obligations.PappAppendsOneByte : Prop :=
  (∀ imm : Byte, decode ((0x07 : BitVec 8) ++ (0 : BitVec 8) ++ (0 : BitVec 8) ++ imm) = .ok (.papp imm))
    ∧ ∀ (s : State) (imm : Byte),
      (s.plen = 256 → exec (.papp imm) s = .next { s with rspStatus := 7, rspData := 0 })
      ∧ (s.plen ≠ 256 →
        ∃ t, exec (.papp imm) s = .next t
          ∧ t = { s with plen := s.plen + 1, pbuf := t.pbuf, rspStatus := 0, rspData := (s.plen + 1).setWidth 16 }
          ∧ ∀ a, t.pbufByte a = if a = s.plen.toNat then imm else s.pbufByte a)

/-- R279: PCLR sets PLEN to 0 and keeps the bytes of PBUF. -/
def Obligations.PclrKeepsTheBytes : Prop :=
  decode 0x08000000 = .ok .pclr
    ∧ ∀ s : State, exec .pclr s = .next { s with plen := 0, rspStatus := 0, rspData := 0 }

/-- R280: SRST gives every register, field and memory its reset value; TXLOG is not shortened and nothing is emitted. The
instance's parameters and the words still to come on CMD are as before: of the words R280 says nothing, that clause is the
model's choice (log 10, on the list of log 4). -/
def Obligations.SrstRestoresTheResetValues : Prop :=
  decode 0x0F000000 = .ok .srst
    ∧ ∀ s : State, exec .srst s = .next { s with
        pid := 0, pvalid := 0, addr := 0, width := 0, height := 0, acc := 0xFF, cmdb := 0, plen := 0, pbuf := []
        fstate := .idle, sst := .idle, phase := .init, cchunk := 0, ccol := 0, sPid := 0, sAddr := 0, sW := 0, sH := 0
        pix := [], rspStatus := 0, rspData := 0 }

/-! ### Address encoder -/

/-- R132: AENC writes and answers the command byte with the tag's code above the address; an address above 15 outranks a
missing code. -/
def Obligations.AencMergesCodeAndAddress : Prop :=
  (∀ tag adr : BitVec 8, decode ((0x10 : BitVec 8) ++ (0 : BitVec 8) ++ tag ++ adr) = .ok (.aenc tag adr))
    ∧ ∀ (s : State) (tag adr : BitVec 8),
      (15 < adr.toNat → exec (.aenc tag adr) s = .next { s with rspStatus := 1, rspData := 0 })
      ∧ (adr.toNat ≤ 15 → s.pvalid = 0 ∨ code s.cfg (profileOf s.pid) tag = none →
        exec (.aenc tag adr) s = .next { s with rspStatus := 2, rspData := 0 })
      ∧ (∀ k, adr.toNat ≤ 15 → s.pvalid = 1 → code s.cfg (profileOf s.pid) tag = some k →
        exec (.aenc tag adr) s = .next { s with
          cmdb := k ++ adr.setWidth 4, rspStatus := 0, rspData := (0 : BitVec 8) ++ (k ++ adr.setWidth 4) })

/-- R133, R130: ASPLIT answers the code nibble in bits 11..8 and the address nibble in bits 3..0, and changes nothing
else; merge puts the code in the high nibble and the address in the low one. That split undoes merge both ways is what the
spec derives from R130 in R131. -/
def Obligations.AsplitAnswersTheMergedNibbles : Prop :=
  (∀ imm : Byte, decode ((0x11 : BitVec 8) ++ (0 : BitVec 8) ++ (0 : BitVec 8) ++ imm) = .ok (.asplit imm))
    ∧ (∀ (s : State) (k a : Nibble),
      exec (.asplit (k ++ a)) s = .next { s with
        rspStatus := 0, rspData := (0 : BitVec 4) ++ k ++ (0 : BitVec 4) ++ a })
    ∧ (∀ k a : Nibble, merge k a = k ++ a ∧ codeNibble (merge k a) = k ∧ addressNibble (merge k a) = a)
    ∧ ∀ b : Byte, merge (codeNibble b) (addressNibble b) = b

/-- R14, R15 (with R12's code columns, R13): the code map of every profile and tag, and the data tags. -/
def Obligations.CodeMapOfEveryProfile : Prop :=
  ∀ c : Config,
    code c .fdLegacy 0 = some c.params.codeFdInit ∧ code c .fdExt 0 = some c.params.codeFdInit
    ∧ code c .led1 0 = c.params.codeLed1Init ∧ code c .led2 0 = c.params.codeLed2Init
    ∧ (∀ p, code c p 0 = initCode c p)
    ∧ code c .fdLegacy 1 = some c.params.codeFdData ∧ code c .fdExt 1 = some c.params.codeFdData
    ∧ code c .led1 1 = none ∧ code c .led2 1 = none
    ∧ code c .fdLegacy 2 = none ∧ code c .fdExt 2 = none
    ∧ code c .led1 2 = some c.params.codeLed1Data ∧ code c .led2 2 = some c.params.codeLed2Data
    ∧ (∀ (p : Profile) (tag : BitVec 8), 3 ≤ tag.toNat → code c p tag = none)
    ∧ dataTag .fdLegacy = 1 ∧ dataTag .fdExt = 1 ∧ dataTag .led1 = 2 ∧ dataTag .led2 = 2

/-! ### Pixel packer -/

/-- R155: PACK2 appends the packed column slice to PBUF and answers the number of bytes; a column outside the bitmap or too
little room refuses it, in that order. -/
def Obligations.Pack2AppendsThePackedSlice : Prop :=
  (∀ (row0 col : BitVec 8) (o : BitOrder) (n : Nat), n < 128 →
      decode ((0x20 : BitVec 8) ++ row0 ++ col
          ++ ((if o = .lsbFirst then (0 : BitVec 1) else 1) ++ BitVec.ofNat 7 n))
        = .ok (.pack2 row0 col o n))
    ∧ ∀ (s : State) (row0 col : BitVec 8) (o : BitOrder) (n : Nat),
      (s.width.toNat ≤ col.toNat → exec (.pack2 row0 col o n) s = .next { s with rspStatus := 3, rspData := 0 })
      ∧ (col.toNat < s.width.toNat → 256 < s.plen.toNat + (n + 3) / 4 →
        exec (.pack2 row0 col o n) s = .next { s with rspStatus := 7, rspData := 0 })
      ∧ (col.toNat < s.width.toNat → s.plen.toNat + (n + 3) / 4 ≤ 256 →
        ∃ t, exec (.pack2 row0 col o n) s = .next t
          ∧ t = { s with
              plen := BitVec.ofNat 9 (s.plen.toNat + (n + 3) / 4), pbuf := t.pbuf
              rspStatus := 0, rspData := BitVec.ofNat 16 ((n + 3) / 4) }
          ∧ ∀ a, t.pbufByte a =
              if s.plen.toNat ≤ a ∧ a < s.plen.toNat + (n + 3) / 4 then
                (pack2 (slice s.pix s.width.toNat s.height.toNat col.toNat row0.toNat n) o).getD (a - s.plen.toNat) 0
              else s.pbufByte a)

/-- R156: PACK1 appends the packed column slice to PBUF and answers the number of bytes; a column outside the bitmap or too
little room refuses it, in that order. -/
def Obligations.Pack1AppendsThePackedSlice : Prop :=
  (∀ (row0 col : BitVec 8) (o : BitOrder) (n : Nat), n < 128 →
      decode ((0x21 : BitVec 8) ++ row0 ++ col
          ++ ((if o = .lsbFirst then (0 : BitVec 1) else 1) ++ BitVec.ofNat 7 n))
        = .ok (.pack1 row0 col o n))
    ∧ ∀ (s : State) (row0 col : BitVec 8) (o : BitOrder) (n : Nat),
      (s.width.toNat ≤ col.toNat → exec (.pack1 row0 col o n) s = .next { s with rspStatus := 3, rspData := 0 })
      ∧ (col.toNat < s.width.toNat → 256 < s.plen.toNat + (n + 7) / 8 →
        exec (.pack1 row0 col o n) s = .next { s with rspStatus := 7, rspData := 0 })
      ∧ (col.toNat < s.width.toNat → s.plen.toNat + (n + 7) / 8 ≤ 256 →
        ∃ t, exec (.pack1 row0 col o n) s = .next t
          ∧ t = { s with
              plen := BitVec.ofNat 9 (s.plen.toNat + (n + 7) / 8), pbuf := t.pbuf
              rspStatus := 0, rspData := BitVec.ofNat 16 ((n + 7) / 8) }
          ∧ ∀ a, t.pbufByte a =
              if s.plen.toNat ≤ a ∧ a < s.plen.toNat + (n + 7) / 8 then
                (pack1 (slice s.pix s.width.toNat s.height.toNat col.toNat row0.toNat n) o).getD (a - s.plen.toNat) 0
              else s.pbufByte a)

/-- R150, R49: element i of a slice is the pixel of row row0 + i, top first; rows and columns outside the bitmap read off. -/
def Obligations.SliceRunsDownTheColumn : Prop :=
  ∀ (pix : Memory 1) (wd ht c row0 n : Nat),
    (slice pix wd ht c row0 n).length = n
    ∧ ∀ i, i < n → (slice pix wd ht c row0 n)[i]? =
        some (if row0 + i < ht ∧ c < wd then pix.read ((row0 + i) * wd + c) else 0)

/-- R151, R152: the 2-bit field of pixel 4j + k is 11 for on and 10 for off or padding, at bits [2k+1:2k] for LSB_FIRST and
[7-2k:6-2k] for MSB_FIRST. -/
def Obligations.Pack2FieldsHoldThePixelCodes : Prop :=
  ∀ (ps : List Pixel) (j k : Nat), j < (ps.length + 3) / 4 → k < 4 →
    (pack2 ps .lsbFirst).length = (ps.length + 3) / 4 ∧ (pack2 ps .msbFirst).length = (ps.length + 3) / 4
    ∧ ((pack2 ps .lsbFirst).getD j 0).extractLsb' (2 * k) 2
        = (if 4 * j + k < ps.length ∧ ps.getD (4 * j + k) 0 = 1 then (0b11 : BitVec 2) else 0b10)
    ∧ ((pack2 ps .msbFirst).getD j 0).extractLsb' (6 - 2 * k) 2
        = (if 4 * j + k < ps.length ∧ ps.getD (4 * j + k) 0 = 1 then (0b11 : BitVec 2) else 0b10)

/-- R153: the bit of pixel 8j + k is 1 for on and 0 for off or padding, at bit k for LSB_FIRST and 7 - k for MSB_FIRST. -/
def Obligations.Pack1BitsHoldThePixels : Prop :=
  ∀ (ps : List Pixel) (j k : Nat), j < (ps.length + 7) / 8 → k < 8 →
    (pack1 ps .lsbFirst).length = (ps.length + 7) / 8 ∧ (pack1 ps .msbFirst).length = (ps.length + 7) / 8
    ∧ ((pack1 ps .lsbFirst).getD j 0).extractLsb' k 1 = (if 8 * j + k < ps.length then ps.getD (8 * j + k) 0 else 0)
    ∧ ((pack1 ps .msbFirst).getD j 0).extractLsb' (7 - k) 1
        = (if 8 * j + k < ps.length then ps.getD (8 * j + k) 0 else 0)

/-- R157: packing off pixels gives the fill alone, 0xAA at 2 bits per pixel and 0x00 at 1. -/
def Obligations.AllOffSlicesPackToTheFill : Prop :=
  ∀ (n : Nat) (o : BitOrder),
    pack2 (List.replicate n 0) o = List.replicate ((n + 3) / 4) 0xAA
    ∧ pack1 (List.replicate n 0) o = List.replicate ((n + 7) / 8) 0x00

/-- R158: unpacking undoes packing, and the high bit of every 2-bit field is 1. -/
def Obligations.UnpackUndoesPack : Prop :=
  ∀ (ps : List Pixel) (o : BitOrder),
    unpack2 (pack2 ps o) o ps.length = ps
    ∧ unpack1 (pack1 ps o) o ps.length = ps
    ∧ ∀ b ∈ pack2 ps o, b &&& 0xAA = 0xAA

/-! ### Frame builder -/

/-- R212: BINIT writes the init command byte and the profile's template, and answers the template's length; bytes of PBUF
past the template are left. -/
def Obligations.BinitBuildsTheInitFrame : Prop :=
  decode 0x40000000 = .ok .binit
    ∧ ∀ s : State,
      (s.pvalid = 0 ∨ code s.cfg (profileOf s.pid) 0 = none →
        exec .binit s = .next { s with rspStatus := 2, rspData := 0 })
      ∧ (∀ k, s.pvalid = 1 → code s.cfg (profileOf s.pid) 0 = some k →
        ∃ t, exec .binit s = .next t
          ∧ t = { s with
              cmdb := k ++ s.addr
              plen := BitVec.ofNat 9 (initPayload s.cfg (profileOf s.pid)).length
              pbuf := t.pbuf
              rspStatus := 0
              rspData := BitVec.ofNat 16 (initPayload s.cfg (profileOf s.pid)).length }
          ∧ ∀ a, t.pbufByte a =
              if a < (initPayload s.cfg (profileOf s.pid)).length then (initPayload s.cfg (profileOf s.pid)).getD a 0
              else s.pbufByte a)

/-- R213: BDATA writes the data command byte and the data payload of one column of one chunk, and answers its length; it
refuses an unset profile, an empty bitmap, and a column or chunk outside the bitmap. -/
def Obligations.BdataBuildsOneDataFrame : Prop :=
  (∀ chunk col : BitVec 8, decode ((0x41 : BitVec 8) ++ chunk ++ col ++ (0 : BitVec 8)) = .ok (.bdata chunk col))
    ∧ ∀ (s : State) (chunk col : BitVec 8),
      (s.pvalid = 0 ∨ s.width = 0 ∨ s.height = 0 ∨ s.width.toNat ≤ col.toNat
          ∨ nchunks s.height.toNat (chunkHeight s.cfg (profileOf s.pid)) ≤ chunk.toNat →
        exec (.bdata chunk col) s = .next { s with rspStatus := 3, rspData := 0 })
      ∧ (s.pvalid = 1 → s.width ≠ 0 → s.height ≠ 0 → col.toNat < s.width.toNat →
          chunk.toNat < nchunks s.height.toNat (chunkHeight s.cfg (profileOf s.pid)) →
        ∃ k pl t, code s.cfg (profileOf s.pid) (dataTag (profileOf s.pid)) = some k
          ∧ pl = dataPayload s.cfg s.pix (profileOf s.pid) s.width.toNat s.height.toNat col.toNat chunk.toNat
          ∧ exec (.bdata chunk col) s = .next t
          ∧ t = { s with
              cmdb := k ++ s.addr, plen := BitVec.ofNat 9 pl.length, pbuf := t.pbuf
              rspStatus := 0, rspData := BitVec.ofNat 16 pl.length }
          ∧ ∀ a, t.pbufByte a = if a < pl.length then pl.getD a 0 else s.pbufByte a)

/-- R214, R159 (with R215, R216): a data payload is the column byte, the packed chunk and the profile's trailing 0x00, and its
length does not depend on the bitmap. -/
def Obligations.DataPayloadLayout : Prop :=
  ∀ (c : Config) (pix : Memory 1) (p : Profile) (wd ht col chunk : Nat),
    dataPayload c pix p wd ht col chunk
      = [BitVec.ofNat 8 col]
        ++ (match p with
            | .fdLegacy => pack2 (slice pix wd ht col (chunk * 8) 8) c.ord.fdLegacy
            | .fdExt => pack2 (slice pix wd ht col (chunk * 16) 16) c.ord.fdExt
            | .led1 => pack1 (slice pix wd ht col (chunk * chunkHeight c .led1) (chunkHeight c .led1)) c.ord.led1
            | .led2 => pack1 (slice pix wd ht col (chunk * chunkHeight c .led2) (chunkHeight c .led2)) c.ord.led2)
        ++ (if c.trail.at p = true then [0x00] else [])
    ∧ (dataPayload c pix p wd ht col chunk).length
      = 1 + (match p with
             | .fdLegacy => 2
             | .fdExt => 4
             | .led1 => chunkHeight c .led1 / 8
             | .led2 => chunkHeight c .led2 / 8)
          + (if c.trail.at p = true then 1 else 0)

/-! ### Checksum and framing commands -/

/-- R235: CSINIT starts ACC at 0xFF, also a second time; an open frame refuses it. -/
def Obligations.CsinitStartsTheAccumulator : Prop :=
  decode 0x50000000 = .ok .csinit
    ∧ ∀ s : State,
      (s.fstate = .opened → exec .csinit s = .next { s with rspStatus := 6, rspData := 0 })
      ∧ (s.fstate = .idle →
        exec .csinit s = .next { s with acc := 0xFF, rspStatus := 0, rspData := 0x00FF }
        ∧ exec .csinit { s with acc := 0xFF, rspStatus := 0, rspData := 0x00FF }
          = .next { s with acc := 0xFF, rspStatus := 0, rspData := 0x00FF })

/-- R236: CSACC folds its byte into ACC, 0 leaves ACC, a byte twice cancels; an open frame refuses it. -/
def Obligations.CsaccFoldsOneByte : Prop :=
  (∀ imm : Byte, decode ((0x51 : BitVec 8) ++ (0 : BitVec 8) ++ (0 : BitVec 8) ++ imm) = .ok (.csacc imm))
    ∧ ∀ (s : State) (imm : Byte),
      (s.fstate = .opened → exec (.csacc imm) s = .next { s with rspStatus := 6, rspData := 0 })
      ∧ (s.fstate = .idle →
        exec (.csacc imm) s = .next { s with
          acc := s.acc ^^^ imm, rspStatus := 0, rspData := (0 : BitVec 8) ++ (s.acc ^^^ imm) }
        ∧ exec (.csacc 0) s = .next { s with rspStatus := 0, rspData := (0 : BitVec 8) ++ s.acc }
        ∧ execAll [.csacc imm, .csacc imm] s = .next { s with rspStatus := 0, rspData := (0 : BitVec 8) ++ s.acc })

/-- R237: CSBUF sets ACC to the checksum of the command byte and PBUF[0..PLEN); an open frame refuses it. -/
def Obligations.CsbufComputesTheChecksum : Prop :=
  decode 0x52000000 = .ok .csbuf
    ∧ ∀ s : State,
      (s.fstate = .opened → exec .csbuf s = .next { s with rspStatus := 6, rspData := 0 })
      ∧ (s.fstate = .idle →
        exec .csbuf s = .next { s with
          acc := csum (s.cmdb :: (List.range s.plen.toNat).map s.pbufByte)
          rspStatus := 0
          rspData := (0 : BitVec 8) ++ csum (s.cmdb :: (List.range s.plen.toNat).map s.pbufByte) })
      ∧ (s.plen = 0 → csum (s.cmdb :: (List.range s.plen.toNat).map s.pbufByte) = 0xFF ^^^ s.cmdb)

/-- R238: FOPEN emits the start marker, starts ACC at 0xFF and opens the frame; an open frame refuses it. -/
def Obligations.FopenOpensAFrame : Prop :=
  decode 0x53000000 = .ok .fopen
    ∧ ∀ s : State,
      (s.fstate = .opened → exec .fopen s = .next { s with rspStatus := 6, rspData := 0 })
      ∧ (s.fstate = .idle →
        exec .fopen s = .next { s with
          tx := s.tx ++ [0x7E], acc := 0xFF, fstate := .opened, rspStatus := 0, rspData := 0 })

/-- R239 (with R230): FPUT emits the escaped byte and folds the unescaped one into ACC; with no frame open it is refused. -/
def Obligations.FputSendsOneEscapedByte : Prop :=
  (∀ imm : Byte, decode ((0x54 : BitVec 8) ++ (0 : BitVec 8) ++ (0 : BitVec 8) ++ imm) = .ok (.fput imm))
    ∧ ∀ (s : State) (imm : Byte),
      (s.fstate = .idle → exec (.fput imm) s = .next { s with rspStatus := 6, rspData := 0 })
      ∧ (s.fstate = .opened →
        exec (.fput imm) s = .next { s with
          tx := s.tx ++ (if imm = 0x7E then [0x7D, 0x5E] else if imm = 0x7D then [0x7D, 0x5D] else [imm])
          acc := s.acc ^^^ imm, rspStatus := 0, rspData := (0 : BitVec 8) ++ (s.acc ^^^ imm) })

/-- R240: FCLOSE emits the escaped checksum and the stop marker and closes the frame; ACC keeps the checksum; with no frame
open it is refused. -/
def Obligations.FcloseSendsTheChecksum : Prop :=
  decode 0x55000000 = .ok .fclose
    ∧ ∀ s : State,
      (s.fstate = .idle → exec .fclose s = .next { s with rspStatus := 6, rspData := 0 })
      ∧ (s.fstate = .opened →
        exec .fclose s = .next { s with
          tx := s.tx ++ (if s.acc = 0x7E then [0x7D, 0x5E] else if s.acc = 0x7D then [0x7D, 0x5D] else [s.acc]) ++ [0x7E]
          fstate := .idle, rspStatus := 0, rspData := (0 : BitVec 8) ++ s.acc })

/-- R241 (with R248): FENC emits the WireFrame of the RawFrame and leaves its checksum in ACC, and the RawFrame as it was; an open
frame, then an empty payload under the active profile's data code, refuse it. -/
def Obligations.FencSendsTheRawFrame : Prop :=
  decode 0x56000000 = .ok .fenc
    ∧ ∀ s : State,
      (s.fstate = .opened → exec .fenc s = .next { s with rspStatus := 6, rspData := 0 })
      ∧ (s.fstate = .idle → s.plen = 0 → s.pvalid = 1 →
          code s.cfg (profileOf s.pid) (dataTag (profileOf s.pid)) = some (s.cmdb.extractLsb' 4 4) →
        exec .fenc s = .next { s with rspStatus := 4, rspData := 0 })
      ∧ (s.fstate = .idle →
          ¬ (s.plen = 0 ∧ s.pvalid = 1
            ∧ code s.cfg (profileOf s.pid) (dataTag (profileOf s.pid)) = some (s.cmdb.extractLsb' 4 4)) →
        exec .fenc s = .next { s with
          tx := s.tx ++ wire s.cmdb ((List.range s.plen.toNat).map s.pbufByte)
          acc := csum (s.cmdb :: (List.range s.plen.toNat).map s.pbufByte)
          rspStatus := 0
          rspData := BitVec.ofNat 16 (wire s.cmdb ((List.range s.plen.toNat).map s.pbufByte)).length })

/-- R231, R232: the checksum is the XOR of 0xFF and every byte, and a frame is a marker, the escaped command byte, payload
and checksum, and a marker. -/
def Obligations.WireFrameShape : Prop :=
  csum [] = 0xFF
    ∧ (∀ (l : List Byte) (b : Byte), csum (b :: l) = b ^^^ csum l)
    ∧ ∀ (cmd : Byte) (pl : List Byte),
      wire cmd pl = [0x7E] ++ ([cmd] ++ pl ++ [csum (cmd :: pl)]).flatMap esc ++ [0x7E]

/-- R234: 0x7E occurs in a frame at its first and last place only, every 0x7D inside is followed by 0x5E or 0x5D, the length
is at least 4 and at most 2 + 2 * (payload + 2), the XOR of the body is 0xFF, and the checksum is the same for every order of
the payload bytes. -/
def Obligations.FrameMarkersStandOnlyAtTheEnds : Prop :=
  ∀ (cmd : Byte) (pl : List Byte),
    (∀ i : Nat, i < (wire cmd pl).length →
      ((wire cmd pl)[i]? = some 0x7E ↔ i = 0 ∨ i = (wire cmd pl).length - 1))
    ∧ (∀ i : Nat, (wire cmd pl)[i]? = some 0x7D → (wire cmd pl)[i + 1]? = some 0x5E ∨ (wire cmd pl)[i + 1]? = some 0x5D)
    ∧ 4 ≤ (wire cmd pl).length ∧ (wire cmd pl).length ≤ 2 + 2 * (pl.length + 2)
    ∧ (frameBody cmd pl).foldl (fun a b => a ^^^ b) 0 = 0xFF
    ∧ ∀ pl' : List Byte, pl.Perm pl' → csum (cmd :: pl') = csum (cmd :: pl)

/-- R245: the length of a frame. -/
def Obligations.FrameLengthCountsTheEscapes : Prop :=
  ∀ (cmd : Byte) (pl : List Byte),
    (wire cmd pl).length
      = 4 + pl.length + ([cmd] ++ pl ++ [csum (cmd :: pl)]).countP (fun b => b == 0x7E || b == 0x7D)

/-- R244, R247: no escaped list holds a marker; un-escaping undoes escaping for every list, and escaping undoes un-escaping
for every list it accepts. -/
def Obligations.EscapingIsMarkerFreeAndInvertible : Prop :=
  (∀ l : List Byte, (0x7E : Byte) ∉ escL l)
    ∧ (∀ l : List Byte, unesc (escL l) = some l)
    ∧ ∀ l r : List Byte, unesc l = some r → escL r = l

/-- R242: FOPEN, an FPUT for each byte and FCLOSE emit the WireFrame of those bytes and leave its checksum in ACC, which is
what FENC emits and leaves for that RawFrame. -/
def Obligations.HandBuiltFrameEqualsFenc : Prop :=
  ∀ (s : State) (b0 : Byte) (bs : List Byte), s.fstate = .idle →
    ∃ t, execAll (frameCommands (b0 :: bs)) s = .next t
      ∧ t = { s with
          tx := s.tx ++ wire b0 bs, acc := csum (b0 :: bs)
          rspStatus := 0, rspData := (0 : BitVec 8) ++ csum (b0 :: bs) }
      ∧ ∀ u : State, u.fstate = .idle → u.cmdb = b0 → (List.range u.plen.toNat).map u.pbufByte = bs →
          (bs ≠ [] ∨ requiresData u b0 = false) →
          ∃ v, exec .fenc u = .next v ∧ v.tx = u.tx ++ wire b0 bs ∧ v.acc = t.acc ∧ v.fstate = t.fstate

/-- R345: an open frame makes every framing, session and checksum command listed there answer SequenceError, and an idle
framer does so for FPUT and FCLOSE. -/
def Obligations.OpenFrameLocksOutFramingCommands : Prop :=
  ∀ (i : Instr) (s : State),
    (s.fstate = .opened → lockedByOpenFrame i = true → exec i s = .next { s with rspStatus := 6, rspData := 0 })
    ∧ (s.fstate = .idle → ((∃ imm, i = .fput imm) ∨ i = .fclose) →
        exec i s = .next { s with rspStatus := 6, rspData := 0 })

/-! ### Session commands -/

/-- R183 (with R182, R180): SBEGIN latches the configuration, starts a fresh cursor and answers the frame count; its checks are in
the order SequenceError, DimensionMismatch, UnknownCommand. -/
def Obligations.SbeginLatchesAndCounts : Prop :=
  decode 0x30000000 = .ok .sbegin
    ∧ ∀ s : State,
      (s.fstate = .opened → exec .sbegin s = .next { s with rspStatus := 6, rspData := 0 })
      ∧ (s.fstate = .idle → s.pvalid = 0 ∨ s.width = 0 ∨ s.height = 0 →
        exec .sbegin s = .next { s with rspStatus := 3, rspData := 0 })
      ∧ (s.fstate = .idle → s.pvalid = 1 → s.width ≠ 0 → s.height ≠ 0 →
          code s.cfg (profileOf s.pid) 0 = none
            ∨ code s.cfg (profileOf s.pid) (dataTag (profileOf s.pid)) = none →
        exec .sbegin s = .next { s with rspStatus := 2, rspData := 0 })
      ∧ (s.fstate = .idle → s.pvalid = 1 → s.width ≠ 0 → s.height ≠ 0 →
          code s.cfg (profileOf s.pid) 0 ≠ none →
          code s.cfg (profileOf s.pid) (dataTag (profileOf s.pid)) ≠ none →
        ∃ n ch, ch = chunkHeight s.cfg (profileOf s.pid) ∧ n = (s.height.toNat + ch - 1) / ch
          ∧ exec .sbegin s = .next { s with
              sPid := s.pid, sAddr := s.addr, sW := s.width, sH := s.height
              sst := .active, phase := .init, cchunk := 0, ccol := 0, rspStatus := 0
              rspData := BitVec.ofNat 16
                (n * s.width.toNat + (if s.cfg.initPerChunk.at (profileOf s.pid) = true then n else 1)) })

/-- R185 (with R184): SNEXT is refused unless a session is ACTIVE and no frame is open; else it loads and emits the init or data
frame its cursor names, leaves the checksum in ACC, moves the cursor on, and answers whether the session goes on and the
frame's length. -/
def Obligations.SnextSendsTheFrameAtTheCursor : Prop :=
  decode 0x31000000 = .ok .snext
    ∧ ∀ s : State,
      (s.fstate = .opened ∨ s.sst ≠ .active → exec .snext s = .next { s with rspStatus := 6, rspData := 0 })
      ∧ (∀ k pl, s.fstate = .idle → s.sst = .active → s.phase = .init →
          code s.cfg (profileOf s.sPid) 0 = some k → pl = initPayload s.cfg (profileOf s.sPid) →
        ∃ t, exec .snext s = .next t
          ∧ t = { s with
              cmdb := k ++ s.sAddr, plen := BitVec.ofNat 9 pl.length, pbuf := t.pbuf
              tx := s.tx ++ wire (k ++ s.sAddr) pl, acc := csum ((k ++ s.sAddr) :: pl), phase := .data
              rspStatus := 0, rspData := 0x8000 ||| BitVec.ofNat 16 (wire (k ++ s.sAddr) pl).length }
          ∧ ∀ a, t.pbufByte a = if a < pl.length then pl.getD a 0 else s.pbufByte a)
      ∧ (∀ k pl lastCol lastChunk, s.fstate = .idle → s.sst = .active → s.phase = .data →
          code s.cfg (profileOf s.sPid) (dataTag (profileOf s.sPid)) = some k →
          pl = dataPayload s.cfg s.pix (profileOf s.sPid) s.sW.toNat s.sH.toNat s.ccol.toNat s.cchunk.toNat →
          lastCol = decide (s.sW.toNat ≤ s.ccol.toNat + 1) →
          lastChunk = decide (s.cchunk.toNat + 1
            = nchunks s.sH.toNat (chunkHeight s.cfg (profileOf s.sPid))) →
        ∃ t, exec .snext s = .next t
          ∧ t = { s with
              cmdb := k ++ s.sAddr, plen := BitVec.ofNat 9 pl.length, pbuf := t.pbuf
              tx := s.tx ++ wire (k ++ s.sAddr) pl, acc := csum ((k ++ s.sAddr) :: pl)
              ccol := if lastCol then 0 else s.ccol + 1
              cchunk := if lastCol then s.cchunk + 1 else s.cchunk
              sst := if lastCol && lastChunk then .done else .active
              phase := if lastCol && !lastChunk && s.cfg.initPerChunk.at (profileOf s.sPid) then .init else .data
              rspStatus := 0
              rspData := (if lastCol && lastChunk then 0 else 0x8000)
                ||| BitVec.ofNat 16 (wire (k ++ s.sAddr) pl).length }
          ∧ ∀ a, t.pbufByte a = if a < pl.length then pl.getD a 0 else s.pbufByte a)

/-- R186: SABORT returns the session to IDLE with a fresh cursor in every state; the shadows, FSTATE and TXLOG stay. -/
def Obligations.SabortAbandonsTheSession : Prop :=
  decode 0x32000000 = .ok .sabort
    ∧ ∀ s : State, exec .sabort s = .next { s with
        sst := .idle, phase := .init, cchunk := 0, ccol := 0, rspStatus := 0, rspData := 0 }

/-- R187 (with R181): ENCBMP applies SBEGIN's checks; passing them it emits the session's frames in order, in one step, and ends
DONE with the last data frame in CMDB, PBUF and ACC and the frame count as its answer. -/
def Obligations.EncbmpEmitsTheWholeSession : Prop :=
  decode 0x33000000 = .ok .encbmp
    ∧ ∀ s : State,
      (∀ e, sessionError s = some e → exec .encbmp s = .next { s with rspStatus := e.code, rspData := 0 })
      ∧ (s.Inv → sessionError s = none →
        ∃ p n pl k t, p = profileOf s.pid ∧ n = nchunks s.height.toNat (chunkHeight s.cfg p)
          ∧ code s.cfg p (dataTag p) = some k
          ∧ pl = dataPayload s.cfg s.pix p s.width.toNat s.height.toNat (s.width.toNat - 1) (n - 1)
          ∧ exec .encbmp s = .next t
          ∧ t = { s with
              tx := s.tx ++ (sessionFrames s.cfg s.pix p s.addr s.width.toNat s.height.toNat).flatten
              sPid := s.pid, sAddr := s.addr, sW := s.width, sH := s.height
              sst := .done, phase := .data, cchunk := BitVec.ofNat 8 n, ccol := 0
              cmdb := k ++ s.addr, plen := BitVec.ofNat 9 pl.length, pbuf := t.pbuf, acc := csum ((k ++ s.addr) :: pl)
              rspStatus := 0
              rspData := BitVec.ofNat 16 (frameCount s.cfg p s.width.toNat s.height.toNat) }
          ∧ ∀ a, t.pbufByte a =
              if a < pl.length then pl.getD a 0
              else if a < (initPayload s.cfg p).length then (initPayload s.cfg p).getD a 0
              else s.pbufByte a)

/-- R188: ENCINIT does BINIT's writes, then emits that RawFrame and answers the frame's length; an open frame, then a
missing profile or init code, refuse it; the session is untouched. -/
def Obligations.EncinitEmitsTheInitFrame : Prop :=
  decode 0x34000000 = .ok .encinit
    ∧ ∀ s : State,
      (s.fstate = .opened → exec .encinit s = .next { s with rspStatus := 6, rspData := 0 })
      ∧ (s.fstate = .idle → s.pvalid = 0 ∨ code s.cfg (profileOf s.pid) 0 = none →
        exec .encinit s = .next { s with rspStatus := 2, rspData := 0 })
      ∧ (∀ k pl, s.cfg.legal = true → s.fstate = .idle → s.pvalid = 1 →
          code s.cfg (profileOf s.pid) 0 = some k → pl = initPayload s.cfg (profileOf s.pid) →
        ∃ t, exec .encinit s = .next t
          ∧ t = { s with
              cmdb := k ++ s.addr, plen := BitVec.ofNat 9 pl.length, pbuf := t.pbuf
              tx := s.tx ++ wire (k ++ s.addr) pl, acc := csum ((k ++ s.addr) :: pl)
              rspStatus := 0, rspData := BitVec.ofNat 16 (wire (k ++ s.addr) pl).length }
          ∧ ∀ a, t.pbufByte a = if a < pl.length then pl.getD a 0 else s.pbufByte a)

/-- R181, R182: the session's plan has frameCount frames, at most 8224 for a legal instance and its legal dimensions. -/
def Obligations.SessionPlanHasFrameCountFrames : Prop :=
  ∀ (c : Config) (pix : Memory 1) (p : Profile) (a : Nibble) (wd ht : Nat),
    1 ≤ wd → 1 ≤ ht →
    (sessionFrames c pix p a wd ht).length = frameCount c p wd ht
      ∧ (wd ≤ 256 → ht ≤ 256 → frameCount c p wd ht ≤ 8224)

/-- R181, R184, R185: after SBEGIN, m SNEXTs in a row complete and emit the first m frames of the plan; the response's bit 15
says whether frames are left; after the last frame the session is DONE and SNEXT is refused. -/
def Obligations.SnextWalksTheSessionPlan : Prop :=
  ∀ (s : State) (m : Nat), s.Inv → sessionError s = none →
    m ≤ frameCount s.cfg (profileOf s.pid) s.width.toNat s.height.toNat →
    ∃ t, execAll (.sbegin :: List.replicate m .snext) s = .next t
      ∧ t.rspStatus = 0
      ∧ t.tx = s.tx
          ++ ((sessionFrames s.cfg s.pix (profileOf s.pid) s.addr s.width.toNat s.height.toNat).take m).flatten
      ∧ (t.sst = .active ↔ m < frameCount s.cfg (profileOf s.pid) s.width.toNat s.height.toNat)
      ∧ (1 ≤ m → (t.rspData.getLsbD 15 = true ↔ t.sst = .active))
      ∧ (t.sst ≠ .active → t.sst = .done ∧ exec .snext t = .next { t with rspStatus := 6, rspData := 0 })

/-- R189, R71: what SNEXT emits and answers depends on the shadows, the cursor, PIX and the parameters alone: two states that
agree on those emit the same frame, whatever PROFILE, ADDR, WIDTH, HEIGHT, PBUF, CMDB, PLEN and ACC hold. -/
def Obligations.SessionFramesDependOnlyOnLatchedState : Prop :=
  ∀ s s' : State, s.fstate = .idle → s'.fstate = .idle → s'.cfg = s.cfg → s'.pix = s.pix →
    s'.sPid = s.sPid → s'.sAddr = s.sAddr → s'.sW = s.sW → s'.sH = s.sH →
    s'.sst = s.sst → s'.phase = s.phase → s'.cchunk = s.cchunk → s'.ccol = s.ccol →
    ∃ f t t', exec .snext s = .next t ∧ exec .snext s' = .next t'
      ∧ t.tx = s.tx ++ f ∧ t'.tx = s'.tx ++ f
      ∧ t'.rspStatus = t.rspStatus ∧ t'.rspData = t.rspData
      ∧ t'.sst = t.sst ∧ t'.phase = t.phase ∧ t'.cchunk = t.cchunk ∧ t'.ccol = t.ccol

/-! ### Encoding -/

/-- R100 to R103: the word of every well-formed command decodes to it, and a word that decodes to a command is its word, so a
command has one word and a word one command. -/
def Obligations.DecodeAndEncodeAgree : Prop :=
  (∀ i : Instr, i.wellFormed = true → decode (encode i) = .ok i)
    ∧ ∀ (w : Word) (i : Instr), decode w = .ok i → i.wellFormed = true ∧ encode i = w

/-- R103, R104: a word spells a command exactly when `w & mask = match` for that command's row of the opcode map, and no word
matches two rows. -/
def Obligations.DecodeFollowsTheOpcodeMap : Prop :=
  (∀ (w : Word) (i : Instr), decode w = .ok i →
      ∃ r ∈ opcodeTable, r.mnemonic = mnemonic i ∧ w &&& r.mask = r.pattern)
    ∧ (∀ (w : Word) (r : OpcodeRow), r ∈ opcodeTable → w &&& r.mask = r.pattern →
      ∃ i, decode w = .ok i ∧ mnemonic i = r.mnemonic)
    ∧ ∀ (w : Word) (r r' : OpcodeRow), r ∈ opcodeTable → r' ∈ opcodeTable →
      w &&& r.mask = r.pattern → w &&& r'.mask = r'.pattern → r = r'

/-- R101, R103: words written out from the spec's formats decode to the commands they stand for, one of each family and
format; a reserved bit or an unassigned opcode is refused by name. -/
def Obligations.SampleWordsDecode : Prop :=
  decode 0b00000001000000010000000000001111 = .ok (.wreg 0x01 0x000F)
    ∧ decode 0b00000011000000110000000100000001 = .ok (.wpix 3 1 1)
    ∧ decode 0b00000101000000001111111101010101 = .ok (.wpb 255 0x55)
    ∧ decode 0b00010000000000000000000100001111 = .ok (.aenc 1 15)
    ∧ decode 0b00100001000011000000000010001000 = .ok (.pack1 12 0 .msbFirst 8)
    ∧ decode 0b00110011000000000000000000000000 = .ok .encbmp
    ∧ decode 0b01000001000000010000010100000000 = .ok (.bdata 1 5)
    ∧ decode 0b01010100000000000000000001111110 = .ok (.fput 0x7E)
    ∧ decode 0b00000000000000000000000000000001 = .error .reservedBits
    ∧ decode 0b00001001000000000000000000000000 = .error .unassignedOpcode

/-! ### Steps, reset and whole-machine rules -/

/-- When the next word on CMD decodes to a command, the step accepts that word and is exec of the command;
with no word nothing changes (log 4, the model's choice). -/
def Obligations.StepRunsTheDecodedCommand : Prop :=
  (∀ (s : State) (w : Word) (rest : List Word) (i : Instr), s.cmd = w :: rest → decode w = .ok i →
      step s = exec i { s with cmd := rest })
    ∧ ∀ s : State, s.cmd = [] → step s = .next s

/-- R105, R106: a word with an unassigned opcode or with a reserved or zero-by-rule bit set raises IllegalCommand and has no
other effect than that CMD has delivered it. -/
def Obligations.IllegalWordsRaiseIllegalCommand : Prop :=
  ∀ (s : State) (w : Word) (rest : List Word), s.cmd = w :: rest →
    (∀ r ∈ opcodeTable, w &&& r.mask ≠ r.pattern) →
    step s = .next { s with cmd := rest, rspStatus := 5, rspData := 0 }

/-- Every step of every state answers a next state. R300 says of a command that it completes or fails with one error; that a
step with no word on CMD answers its own state (log 4) and that nothing halts (log 13) are the model's choice. -/
def Obligations.EveryStepHasANextState : Prop :=
  ∀ s : State, ∃ t, step s = .next t

/-- R302: a step that accepts a word and leaves a nonzero RSP_STATUS has written an error's code to RSP_STATUS and 0 to
RSP_DATA and nothing else, and has emitted nothing. -/
def Obligations.FailedCommandChangesOnlyTheResponse : Prop :=
  ∀ (s t : State) (w : Word) (rest : List Word), s.cmd = w :: rest → step s = .next t → t.rspStatus ≠ 0 →
    ∃ e : CodecError, t = { s with cmd := rest, rspStatus := e.code, rspData := 0 }

/-- R304, R301: which errors a command can end in. -/
def Obligations.ErrorsOfEachCommand : Prop :=
  (∀ (i : Instr) (s t : State), exec i s = .next t → t.rspStatus = 0 ∨ ∃ e ∈ errorsOf i, t.rspStatus = e.code)
    ∧ ∀ (w : Word) (s t : State) (e : DecodeError), decode w = .error e → accept w s = .next t → t.rspStatus = 5

/-- R31, R70, R52: TXLOG only grows, only the framing commands emit, and no command changes the parameters. That no command,
SRST among them, changes the words still to come on CMD is the model's choice (log 4, log 10). -/
def Obligations.TxOnlyGrowsAndOnlyByFramingCommands : Prop :=
  ∀ (i : Instr) (s t : State), exec i s = .next t →
    t.cfg = s.cfg ∧ t.cmd = s.cmd ∧ (∃ bytes, t.tx = s.tx ++ bytes) ∧ (emitsBytes i = false → t.tx = s.tx)

/-- R34 to R41, R70: PROFILE, ADDR, WIDTH, HEIGHT, PIX, PBUF, PLEN, CMDB and ACC keep their values through every command but
those that write them; every byte of PBUF and every cell of PIX reads as before. -/
def Obligations.CodecStateIsWrittenOnlyByItsCommands : Prop :=
  ∀ (i : Instr) (s t : State), exec i s = .next t →
    (writesConfiguration i = false →
      t.pid = s.pid ∧ t.pvalid = s.pvalid ∧ t.addr = s.addr ∧ t.width = s.width ∧ t.height = s.height)
    ∧ (writesPixels i = false → ∀ a, t.pixCell a = s.pixCell a)
    ∧ (writesPayload i = false → ∀ a, t.pbufByte a = s.pbufByte a)
    ∧ (writesPayloadLength i = false → t.plen = s.plen)
    ∧ (writesCommandByte i = false → t.cmdb = s.cmdb)
    ∧ (writesAccumulator i = false → t.acc = s.acc)

/-- R33, R42, R43, R46: FSTATE, the session state with its cursor, and the shadows keep their values through every command
but those that write them. -/
def Obligations.ControlStateIsWrittenOnlyByItsCommands : Prop :=
  ∀ (i : Instr) (s t : State), exec i s = .next t →
    (writesFramer i = false → t.fstate = s.fstate)
    ∧ (writesCursor i = false →
      t.sst = s.sst ∧ t.phase = s.phase ∧ t.cchunk = s.cchunk ∧ t.ccol = s.ccol)
    ∧ (writesShadows i = false →
      t.sPid = s.sPid ∧ t.sAddr = s.sAddr ∧ t.sW = s.sW ∧ t.sH = s.sH)

/-- R340: the state at power-on; SRST gives the same one, but for TXLOG and the instance's parameters, which reset does not
change. That SRST keeps the words still to come on CMD is the model's choice (log 10, on the list of log 4): R340's table has
no row for them. -/
def Obligations.ResetHoldsTheSpecsValues : Prop :=
  State.reset.pid = 0 ∧ State.reset.pvalid = 0 ∧ State.reset.addr = 0 ∧ State.reset.width = 0 ∧ State.reset.height = 0
    ∧ State.reset.acc = 0xFF ∧ State.reset.cmdb = 0x00 ∧ State.reset.plen = 0
    ∧ (∀ a, State.reset.pbufByte a = 0x00) ∧ (∀ a, State.reset.pixCell a = 0)
    ∧ State.reset.fstate = .idle ∧ State.reset.sst = .idle ∧ State.reset.phase = .init
    ∧ State.reset.cchunk = 0 ∧ State.reset.ccol = 0
    ∧ State.reset.sPid = 0 ∧ State.reset.sAddr = 0 ∧ State.reset.sW = 0 ∧ State.reset.sH = 0
    ∧ State.reset.rspStatus = 0 ∧ State.reset.rspData = 0 ∧ State.reset.tx = []
    ∧ ∀ s : State, exec .srst s = .next { State.reset with cfg := s.cfg, cmd := s.cmd, tx := s.tx }

/-- The profile table of R12 with the templates of R11. For every instance: encodings, chunk heights and templates, each OPEN
entry with the parameter it takes. For the reset instance: that it has these sizes, orders, trailing bytes and init policies
is the model's choice (log 3), and that its OPEN parameters are legal and otherwise unknown is too (log 2). -/
def Obligations.ProfileTableAtReset : Prop :=
  (profileOf 0 = .fdLegacy ∧ profileOf 1 = .fdExt ∧ profileOf 2 = .led1 ∧ profileOf 3 = .led2)
    ∧ (∀ c : Config,
      (∀ p ps, packP c p ps = if p = .fdLegacy ∨ p = .fdExt then pack2 ps (c.ord.at p) else pack1 ps (c.ord.at p))
      ∧ rowsOf .rows8 = 8 ∧ rowsOf .rows16 = 16
      ∧ chunkHeight c .fdLegacy = 8 ∧ chunkHeight c .fdExt = 16
      ∧ chunkHeight c .led1 = rowsOf c.params.chLed1 ∧ chunkHeight c .led2 = rowsOf c.params.chLed2
      ∧ (∀ p, chunkHeight c p = 8 ∨ chunkHeight c p = 16)
      ∧ initPayload c .fdLegacy = c.params.tplFdLegacy
      ∧ initPayload c .fdExt = [0x00, 0x10, 0x00, 0x50, 0x00, 0x02, 0x2E]
      ∧ initPayload c .led1 = c.params.tplLed1 ∧ initPayload c .led2 = c.params.tplLed2)
    ∧ ∃ c, c = State.reset.cfg ∧ c.wMax = 256 ∧ c.hMax = 256
      ∧ (∀ p, c.trail.at p = decide (p = .fdLegacy ∨ p = .fdExt))
      ∧ (∀ p, c.ord.at p = if p = .fdLegacy ∨ p = .fdExt then .lsbFirst else .msbFirst)
      ∧ (∀ p, c.initPerChunk.at p = false)
      ∧ (initPayload c .fdLegacy).length = 6 ∧ (∀ p, (initPayload c p).length ≤ 16)
      ∧ (∀ p, initCode c p ≠ dataCode c p) ∧ dataCode c .led1 ≠ dataCode c .led2

/-- The model's invariant, State.Inv, holds at power-on. -/
def Obligations.ResetMeetsTheInvariant : Prop :=
  State.reset.Inv

/-- Every step keeps the model's invariant State.Inv (R35 to R48, R302): legal parameters, bounded dimensions and payload length, both memories
canonical and inside their bounds, a cursor inside the session it walks, and RSP_DATA = 0 on an error. -/
def Obligations.EveryStepKeepsTheInvariant : Prop :=
  ∀ s t : State, s.Inv → step s = .next t → t.Inv

/-- Two memories in the model's canonical form (log 8) that read the same everywhere are the same data. -/
def Obligations.CanonicalMemoriesAreEqualWhenTheyReadEqual : Prop :=
  ∀ (w size size' : Nat) (m m' : Memory w), m.wf size → m'.wf size' → (∀ a, m.read a = m'.read a) → m = m'
end

