-- ==== Sys2Proof/Laws/Codec.lean ====
section
/-! SUPPORT. The small lemmas of the profile table and of the codec's pure functions: lengths, ranges, and each function on
the constructors of its argument. -/

namespace Sys2Proof.Machine

/-! ### Profiles -/

/-- `code(p, 0)` is the init code (00_scope.md R14). -/
@[simp] theorem code_tagInit (c : Config) (p : Profile) : code c p tagInit = initCode c p := rfl

/-- A chunk has 8 or 16 rows (00_scope.md R12). -/
theorem chunkHeight_cases (c : Config) (p : Profile) : chunkHeight c p = 8 ∨ chunkHeight c p = 16 := by
  cases p
  · exact .inl rfl
  · exact .inr rfl
  · cases h : c.params.chLed1 <;> simp [chunkHeight, rowsOf, h]
  · cases h : c.params.chLed2 <;> simp [chunkHeight, rowsOf, h]

/-- Every profile has a data code with the parameters of 00_scope.md R10. -/
theorem dataCode_isSome (c : Config) (p : Profile) : (dataCode c p).isSome := by
  cases p <;> rfl

/-- An init template of a legal instance has at most 16 bytes (00_scope.md R11). -/
theorem initPayload_length_le {c : Config} (h : c.legal = true) (p : Profile) : (initPayload c p).length ≤ 16 := by
  simp only [Config.legal, OpenParams.legal, Bool.and_eq_true, decide_eq_true_eq] at h
  obtain ⟨_, ⟨⟨_, h6⟩, h1⟩, h2⟩ := h
  cases p
  · exact Nat.le_trans (Nat.le_of_eq h6) (by decide)
  · exact (by decide : templateFdExt.length ≤ 16)
  · exact h1
  · exact h2

/-- A legal instance's largest dimensions. -/
theorem Config.legal_bounds {c : Config} (h : c.legal = true) :
    1 ≤ c.wMax ∧ c.wMax ≤ 256 ∧ 1 ≤ c.hMax ∧ c.hMax ≤ 256 := by
  simp only [Config.legal, Bool.and_eq_true, decide_eq_true_eq] at h
  exact ⟨h.1.1.1.1, h.1.1.1.2, h.1.1.2, h.1.2⟩

/-- The opaque OPEN parameters, made legal, are legal. -/
theorem OpenParams.legal_legalised (o : OpenParams) : o.legalised.legal = true := by
  unfold OpenParams.legalised
  split
  · assumption
  · decide

/-! ### Chunks -/

theorem chunksOf_pos (c : Config) (p : Profile) {ht : Nat} (h : 0 < ht) : 0 < chunksOf c p ht := by
  unfold chunksOf nchunks ceilDiv
  rcases chunkHeight_cases c p with hc | hc <;> rw [hc] <;> omega

theorem chunksOf_le (c : Config) (p : Profile) {ht : Nat} (h : ht ≤ 256) : chunksOf c p ht ≤ 32 := by
  unfold chunksOf nchunks ceilDiv
  rcases chunkHeight_cases c p with hc | hc <;> rw [hc] <;> omega

/-! ### Slices and packing -/

@[simp] theorem slice_length (pix : Memory 1) (wd ht c row0 n : Nat) : (slice pix wd ht c row0 n).length = n := by
  simp [slice]

@[simp] theorem pack2_length (ps : List Pixel) (o : BitOrder) : (pack2 ps o).length = (ps.length + 3) / 4 := by
  simp [pack2, ceilDiv]

@[simp] theorem pack1_length (ps : List Pixel) (o : BitOrder) : (pack1 ps o).length = (ps.length + 7) / 8 := by
  simp [pack1, ceilDiv]

theorem packP_length_le (c : Config) (p : Profile) (ps : List Pixel) (h : ps.length ≤ 16) : (packP c p ps).length ≤ 4 := by
  unfold packP
  split
  · rw [pack2_length]; omega
  · rw [pack1_length]; omega

/-- "no data payload exceeds 1 + 4 + 1 = 6 bytes" (43_chunk_planner.md R185). -/
theorem dataPayload_length_le (c : Config) (pix : Memory 1) (p : Profile) (wd ht col k : Nat) :
    (dataPayload c pix p wd ht col k).length ≤ 6 := by
  have hp := packP_length_le c p (slice pix wd ht col (k * chunkHeight c p) (chunkHeight c p))
    (by rcases chunkHeight_cases c p with h | h <;> simp [h])
  have ht : (trailer c p).length ≤ 1 := by
    unfold trailer
    split <;> simp
  simp only [dataPayload, List.length_append, List.length_singleton]
  omega

/-! ### Escaping and checksum -/

@[simp] theorem escL_nil : escL [] = [] := rfl

@[simp] theorem escL_cons (b : Byte) (l : List Byte) : escL (b :: l) = esc b ++ escL l := rfl

theorem escL_append (l r : List Byte) : escL (l ++ r) = escL l ++ escL r := by
  simp [escL]

/-- The three cases of `esc` (45_frame_encoder.md R230). -/
theorem esc_cases (b : Byte) :
    (b = 0x7E ∧ esc b = [0x7D, 0x5E]) ∨ (b = 0x7D ∧ esc b = [0x7D, 0x5D]) ∨ (b ≠ 0x7E ∧ b ≠ 0x7D ∧ esc b = [b]) := by
  by_cases h1 : b = 0x7E
  · exact .inl ⟨h1, by rw [h1]; rfl⟩
  · by_cases h2 : b = 0x7D
    · exact .inr (.inl ⟨h2, by rw [h2]; rfl⟩)
    · exact .inr (.inr ⟨h1, h2, by unfold esc; rw [if_neg h1, if_neg h2]⟩)

@[simp] theorem csum_nil : csum [] = 0xFF := rfl

/-- The fold from any start is the fold from 0, with the start folded in. -/
theorem foldl_xor_start (l : List Byte) (a : Byte) :
    l.foldl (fun x y => x ^^^ y) a = a ^^^ l.foldl (fun x y => x ^^^ y) 0 := by
  induction l generalizing a with
  | nil => simp
  | cons b l ih => rw [List.foldl_cons, ih, List.foldl_cons, ih (0 ^^^ b)]; simp [BitVec.xor_assoc]

theorem csum_append_one (l : List Byte) (b : Byte) : csum (l ++ [b]) = csum l ^^^ b := by
  simp [csum]

end Sys2Proof.Machine
end

