-- ==== Sys2Proof/Laws/Decode.lean ====
section
/-! SUPPORT. What the fields of a word made from its parts are, and what each format of the decoder answers. -/

namespace Sys2Proof

/-! ### Fields of appended parts -/

/-- The upper part of an append, read from its own place. -/
theorem extract_append_high {m n : Nat} (a : BitVec m) (b : BitVec n) (s l : Nat) (h : n ≤ s) :
    (a ++ b).extractLsb' s l = a.extractLsb' (s - n) l := by
  apply BitVec.eq_of_getLsbD_eq
  intro i hi
  have h1 : ¬ s + i < n := by omega
  have h2 : s + i - n = s - n + i := by omega
  simp only [BitVec.getLsbD_extractLsb', BitVec.getLsbD_append, h1, if_false, h2]

/-- The lower part of an append. -/
theorem extract_append_low {m n : Nat} (a : BitVec m) (b : BitVec n) (s l : Nat) (h : s + l ≤ n) :
    (a ++ b).extractLsb' s l = b.extractLsb' s l := by
  apply BitVec.eq_of_getLsbD_eq
  intro i hi
  have h1 : s + i < n := by omega
  simp only [BitVec.getLsbD_extractLsb', BitVec.getLsbD_append, h1, if_true]

/-- A whole vector is its own field. -/
theorem extract_whole {n : Nat} (a : BitVec n) : a.extractLsb' 0 n = a := by
  apply BitVec.eq_of_getLsbD_eq
  intro i hi
  simp only [BitVec.getLsbD_extractLsb', hi, decide_true, Bool.true_and, Nat.zero_add]

/-! ### Fields of a word made of four bytes -/

section
variable (op b2 b1 b0 : BitVec 8)

@[simp] theorem opField_wordOfBytes : opField (wordOfBytes op b2 b1 b0) = op :=
  (extract_append_high (op ++ b2 ++ b1) b0 24 8 (by omega)).trans
    ((extract_append_high (op ++ b2) b1 16 8 (by omega)).trans
      ((extract_append_high op b2 8 8 (by omega)).trans (extract_whole op)))

@[simp] theorem field23to16_wordOfBytes : field23to16 (wordOfBytes op b2 b1 b0) = b2 :=
  (extract_append_high (op ++ b2 ++ b1) b0 16 8 (by omega)).trans
    ((extract_append_high (op ++ b2) b1 8 8 (by omega)).trans
      ((extract_append_low op b2 0 8 (by omega)).trans (extract_whole b2)))

@[simp] theorem field15to8_wordOfBytes : field15to8 (wordOfBytes op b2 b1 b0) = b1 :=
  (extract_append_high (op ++ b2 ++ b1) b0 8 8 (by omega)).trans
    ((extract_append_low (op ++ b2) b1 0 8 (by omega)).trans (extract_whole b1))

@[simp] theorem field7to0_wordOfBytes : field7to0 (wordOfBytes op b2 b1 b0) = b0 :=
  (extract_append_low (op ++ b2 ++ b1) b0 0 8 (by omega)).trans (extract_whole b0)

/-- A field inside the low byte. -/
theorem extract_wordOfBytes_low (s l : Nat) (h : s + l ≤ 8) :
    (wordOfBytes op b2 b1 b0).extractLsb' s l = b0.extractLsb' s l :=
  extract_append_low (op ++ b2 ++ b1) b0 s l h

end

/-- A word is made of its four bytes. -/
theorem wordOfBytes_fields (w : Word) : wordOfBytes (opField w) (field23to16 w) (field15to8 w) (field7to0 w) = w := by
  apply BitVec.eq_of_getLsbD_eq
  intro i hi
  simp only [wordOfBytes, opField, field23to16, field15to8, field7to0, BitVec.getLsbD_append, BitVec.getLsbD_extractLsb']
  by_cases h1 : i < 8
  · simp [h1]
  by_cases h2 : i < 16
  · simp [h1, show i - 8 < 8 by omega, show 8 + (i - 8) = i by omega]
  by_cases h3 : i < 24
  · simp [h1, show ¬ i - 8 < 8 by omega, show i - 8 - 8 < 8 by omega, show 16 + (i - 8 - 8) = i by omega]
  · simp [h1, show ¬ i - 8 < 8 by omega, show ¬ i - 8 - 8 < 8 by omega, show i - 8 - 8 - 8 < 8 by omega,
      show 24 + (i - 8 - 8 - 8) = i by omega]

/-- A mask made of four bytes acts byte by byte. -/
theorem wordOfBytes_and (a3 a2 a1 a0 m3 m2 m1 m0 : BitVec 8) :
    wordOfBytes a3 a2 a1 a0 &&& wordOfBytes m3 m2 m1 m0 = wordOfBytes (a3 &&& m3) (a2 &&& m2) (a1 &&& m1) (a0 &&& m0) := by
  apply BitVec.eq_of_getLsbD_eq
  intro i _
  simp only [wordOfBytes, BitVec.getLsbD_and, BitVec.getLsbD_append]
  split_ifs <;> rfl

/-- WREG's word is made of four bytes like every other. -/
theorem regWord_eq_wordOfBytes (op reg : BitVec 8) (d : Datum) :
    op ++ reg ++ d = wordOfBytes op reg (d.extractLsb' 8 8) (d.extractLsb' 0 8) := by
  apply BitVec.eq_of_getLsbD_eq
  intro i hi
  simp only [wordOfBytes, BitVec.getLsbD_append, BitVec.getLsbD_extractLsb']
  by_cases h1 : i < 8
  · simp [h1, show i < 16 by omega]
  by_cases h2 : i < 16
  · simp [h1, h2, show i - 8 < 8 by omega, show 8 + (i - 8) = i by omega]
  · simp [h1, h2, show ¬ i - 8 < 8 by omega, show i - 8 - 8 = i - 16 by omega]

/-! ### Fields of format RG's word -/

@[simp] theorem opField_regWord (op reg : BitVec 8) (d : Datum) : opField (op ++ reg ++ d) = op :=
  (extract_append_high (op ++ reg) d 24 8 (by omega)).trans
    ((extract_append_high op reg 8 8 (by omega)).trans (extract_whole op))

@[simp] theorem field23to16_regWord (op reg : BitVec 8) (d : Datum) : field23to16 (op ++ reg ++ d) = reg :=
  (extract_append_high (op ++ reg) d 16 8 (by omega)).trans
    ((extract_append_low op reg 0 8 (by omega)).trans (extract_whole reg))

@[simp] theorem data16Field_regWord (op reg : BitVec 8) (d : Datum) : data16Field (op ++ reg ++ d) = d :=
  (extract_append_low (op ++ reg) d 0 16 (by omega)).trans (extract_whole d)

/-! ### Fields of the low bytes of formats PX and S -/

@[simp] theorem pixelField_pixelByte (op b2 b1 : BitVec 8) (v : Pixel) :
    pixelField (wordOfBytes op b2 b1 (pixelByte v)) = v :=
  (extract_wordOfBytes_low op b2 b1 _ 0 1 (by omega)).trans
    ((extract_append_low (0 : BitVec 7) v 0 1 (by omega)).trans (extract_whole v))

@[simp] theorem reserved_pixelByte (op b2 b1 : BitVec 8) (v : Pixel) :
    (wordOfBytes op b2 b1 (pixelByte v)).extractLsb' 1 7 = 0 :=
  (extract_wordOfBytes_low op b2 b1 _ 1 7 (by omega)).trans
    ((extract_append_high (0 : BitVec 7) v 1 7 (by omega)).trans (extract_whole 0))

@[simp] theorem ordField_sliceByte (op b2 b1 : BitVec 8) (o : BitOrder) (n : Nat) :
    ordField (wordOfBytes op b2 b1 (sliceByte o n)) = o := by
  have h : (wordOfBytes op b2 b1 (sliceByte o n)).extractLsb' 7 1 = ordBit o :=
    (extract_wordOfBytes_low op b2 b1 _ 7 1 (by omega)).trans
      ((extract_append_high (ordBit o) (BitVec.ofNat 7 n) 7 1 (by omega)).trans (extract_whole _))
  cases o <;> simp [ordField, h, ordBit]

theorem sliceLengthField_sliceByte (op b2 b1 : BitVec 8) (o : BitOrder) {n : Nat} (hn : n < 128) :
    sliceLengthField (wordOfBytes op b2 b1 (sliceByte o n)) = n := by
  have h : (wordOfBytes op b2 b1 (sliceByte o n)).extractLsb' 0 7 = BitVec.ofNat 7 n :=
    (extract_wordOfBytes_low op b2 b1 _ 0 7 (by omega)).trans
      ((extract_append_low (ordBit o) (BitVec.ofNat 7 n) 0 7 (by omega)).trans (extract_whole _))
  rw [sliceLengthField, h, BitVec.toNat_ofNat, Nat.mod_eq_of_lt (by omega)]

/-! ### The formats -/

/-- All that a format's reserved-bit check can answer. -/
theorem whenZero_eq_ok {r : Bool} {i j : Instr} : whenZero r i = .ok j ↔ r = true ∧ j = i := by
  cases r <;> simp [whenZero, eq_comm]

end Sys2Proof
end

