-- ==== Sys2Proof/Laws/Memory.lean ====
section
/-! SUPPORT. The laws of a memory of cells: reading after writing, and that every operation keeps the canonical form. -/

namespace Sys2Proof.Machine

variable {w : Nat}

@[simp] theorem Memory.read_nil (a : Nat) : Memory.read ([] : Memory w) a = 0 := rfl

theorem Memory.read_cons (b : Nat) (v : BitVec w) (m : Memory w) (a : Nat) :
    Memory.read ((b, v) :: m) a = if a = b then v else Memory.read m a := rfl

/-! ### Erasing and inserting a cell -/

theorem Memory.read_erase (m : Memory w) (a b : Nat) :
    (m.erase a).read b = if b = a then 0 else m.read b := by
  induction m with
  | nil => simp [Memory.erase]
  | cons c m ih =>
    obtain ⟨k, v⟩ := c
    unfold Memory.erase at ih ⊢
    by_cases hk : k = a
    · subst hk
      rw [List.filter_cons_of_neg (by simp), ih]
      by_cases hb : b = k <;> simp [Memory.read_cons, hb]
    · rw [List.filter_cons_of_pos (by simpa using hk), Memory.read_cons, ih, Memory.read_cons]
      by_cases hb : b = k
      · subst hb; simp [hk]
      · simp [hb]

theorem Memory.read_insert (m : Memory w) (a : Nat) (v : BitVec w) (b : Nat) (h : ∀ c ∈ m, c.1 ≠ a) :
    (m.insert a v).read b = if b = a then v else m.read b := by
  induction m with
  | nil => simp [Memory.insert, Memory.read_cons]
  | cons c m ih =>
    obtain ⟨k, x⟩ := c
    have hk : k ≠ a := h (k, x) (by simp)
    have ih := ih (fun c hc => h c (by simp [hc]))
    unfold Memory.insert
    split
    · rw [Memory.read_cons]
    · rw [Memory.read_cons, ih, Memory.read_cons]
      by_cases hb : b = k
      · subst hb; simp [hk]
      · simp [hb]

theorem Memory.mem_erase {m : Memory w} {a : Nat} {c : Nat × BitVec w} :
    c ∈ m.erase a ↔ c ∈ m ∧ c.1 ≠ a := by
  simp [Memory.erase]

theorem Memory.mem_insert {m : Memory w} {a : Nat} {v : BitVec w} {c : Nat × BitVec w} :
    c ∈ m.insert a v ↔ c = (a, v) ∨ c ∈ m := by
  induction m with
  | nil => simp [Memory.insert]
  | cons d m ih =>
    obtain ⟨k, x⟩ := d
    unfold Memory.insert
    split
    · simp
    · simp only [List.mem_cons, ih]; tauto

/-! ### Reading after writing -/

/-- All that a write does to what is read: the written cell, and no other. -/
theorem Memory.read_write (m : Memory w) (a : Nat) (v : BitVec w) (b : Nat) :
    (m.write a v).read b = if b = a then v else m.read b := by
  unfold Memory.write
  split
  · next hv => rw [Memory.read_erase, hv]
  · rw [Memory.read_insert _ _ _ _ (fun c hc => (Memory.mem_erase.1 hc).2), Memory.read_erase]
    by_cases hb : b = a <;> simp [hb]

@[simp] theorem Memory.read_write_same (m : Memory w) (a : Nat) (v : BitVec w) : (m.write a v).read a = v := by
  simp [Memory.read_write]

theorem Memory.read_write_other (m : Memory w) {a b : Nat} (v : BitVec w) (h : b ≠ a) :
    (m.write a v).read b = m.read b := by
  simp [Memory.read_write, h]

/-- All that writing a list does to what is read: the cells it covers, and no other. -/
theorem Memory.read_writeList (m : Memory w) (base : Nat) (vs : List (BitVec w)) (b : Nat) :
    (m.writeList base vs).read b = if base ≤ b ∧ b < base + vs.length then vs.getD (b - base) 0 else m.read b := by
  induction vs generalizing m base with
  | nil =>
    rw [if_neg (by simp only [List.length_nil]; omega)]
    rfl
  | cons v vs ih =>
    rw [Memory.writeList, ih, Memory.read_write]
    by_cases hb : b = base
    · subst hb
      simp
    · by_cases hc : base + 1 ≤ b ∧ b < base + 1 + vs.length
      · have he : b - base = (b - (base + 1)) + 1 := by omega
        rw [if_pos hc, if_pos (by simp only [List.length_cons]; omega), he, List.getD_cons_succ]
      · rw [if_neg hc, if_neg hb, if_neg (by simp only [List.length_cons]; omega)]

/-! ### The canonical form -/

theorem Memory.wf_nil (size : Nat) : Memory.wf size ([] : Memory w) :=
  ⟨List.Pairwise.nil, by simp⟩

theorem Memory.wf_erase {size : Nat} {m : Memory w} (h : m.wf size) (a : Nat) : (m.erase a).wf size :=
  ⟨h.1.sublist List.filter_sublist, fun c hc => h.2 c (Memory.mem_erase.1 hc).1⟩

theorem Memory.pairwise_insert {m : Memory w} (h : m.Pairwise (fun c d => c.1 < d.1)) (a : Nat) (v : BitVec w)
    (ha : ∀ c ∈ m, c.1 ≠ a) : (m.insert a v).Pairwise (fun c d => c.1 < d.1) := by
  induction m with
  | nil => simp [Memory.insert]
  | cons d m ih =>
    obtain ⟨k, x⟩ := d
    have hk : k ≠ a := ha (k, x) (by simp)
    have hp := List.pairwise_cons.1 h
    unfold Memory.insert
    split
    · next hlt =>
      refine List.pairwise_cons.2 ⟨fun c hc => ?_, h⟩
      rcases List.mem_cons.1 hc with rfl | hc
      · exact hlt
      · exact Nat.lt_trans hlt (hp.1 c hc)
    · next hge =>
      refine List.pairwise_cons.2 ⟨fun c hc => ?_, ih hp.2 (fun c hc => ha c (by simp [hc]))⟩
      rcases Memory.mem_insert.1 hc with rfl | hc
      · show k < a
        omega
      · exact hp.1 c hc

/-- A write inside the memory keeps the canonical form. -/
theorem Memory.wf_write {size : Nat} {m : Memory w} (h : m.wf size) {a : Nat} (ha : a < size) (v : BitVec w) :
    (m.write a v).wf size := by
  unfold Memory.write
  split
  · exact Memory.wf_erase h a
  · next hv =>
    refine ⟨Memory.pairwise_insert (Memory.wf_erase h a).1 a v (fun c hc => (Memory.mem_erase.1 hc).2), fun c hc => ?_⟩
    rcases Memory.mem_insert.1 hc with rfl | hc
    · exact ⟨ha, hv⟩
    · exact (Memory.wf_erase h a).2 c hc

/-- Writing a list inside the memory keeps the canonical form. -/
theorem Memory.wf_writeList {size : Nat} {m : Memory w} (h : m.wf size) (base : Nat) (vs : List (BitVec w))
    (hb : base + vs.length ≤ size) : (m.writeList base vs).wf size := by
  induction vs generalizing m base with
  | nil => exact h
  | cons v vs ih =>
    simp only [List.length_cons] at hb
    exact ih (Memory.wf_write h (by omega) v) (base + 1) (by omega)

/-- A cell that is listed reads as its value. -/
theorem Memory.read_of_mem {m : Memory w} (h : m.Pairwise (fun c d => c.1 < d.1)) {c : Nat × BitVec w} (hc : c ∈ m) :
    m.read c.1 = c.2 := by
  induction m with
  | nil => simp at hc
  | cons d m ih =>
    obtain ⟨k, x⟩ := d
    have hp := List.pairwise_cons.1 h
    rcases List.mem_cons.1 hc with rfl | hc
    · simp [Memory.read_cons]
    · have := hp.1 c hc
      rw [Memory.read_cons, if_neg (by simp only at this; omega), ih hp.2 hc]

/-- A cell that is not listed reads 0. -/
theorem Memory.read_of_not_listed {m : Memory w} {a : Nat} (h : ∀ c ∈ m, c.1 ≠ a) : m.read a = 0 := by
  induction m with
  | nil => rfl
  | cons d m ih =>
    rw [Memory.read_cons, if_neg (fun e => h d (by simp) e.symm), ih (fun c hc => h c (by simp [hc]))]

end Sys2Proof.Machine
end

