-- ==== Sys2Proof/Laws/State.lean ====
section
/-! SUPPORT. One lemma per field per update of State, each true by rfl: what an update writes, and that it leaves every
other field alone. -/

namespace Sys2Proof.Machine

variable (s : State)

/-! ### respond -/

@[simp] theorem State.respond_cfg (status : BitVec 3) (data : Datum) : (s.respond status data).cfg = s.cfg := rfl
@[simp] theorem State.respond_cmd (status : BitVec 3) (data : Datum) : (s.respond status data).cmd = s.cmd := rfl
@[simp] theorem State.respond_pid (status : BitVec 3) (data : Datum) : (s.respond status data).pid = s.pid := rfl
@[simp] theorem State.respond_pvalid (status : BitVec 3) (data : Datum) : (s.respond status data).pvalid = s.pvalid := rfl
@[simp] theorem State.respond_addr (status : BitVec 3) (data : Datum) : (s.respond status data).addr = s.addr := rfl
@[simp] theorem State.respond_width (status : BitVec 3) (data : Datum) : (s.respond status data).width = s.width := rfl
@[simp] theorem State.respond_height (status : BitVec 3) (data : Datum) : (s.respond status data).height = s.height := rfl
@[simp] theorem State.respond_acc (status : BitVec 3) (data : Datum) : (s.respond status data).acc = s.acc := rfl
@[simp] theorem State.respond_cmdb (status : BitVec 3) (data : Datum) : (s.respond status data).cmdb = s.cmdb := rfl
@[simp] theorem State.respond_plen (status : BitVec 3) (data : Datum) : (s.respond status data).plen = s.plen := rfl
@[simp] theorem State.respond_pbuf (status : BitVec 3) (data : Datum) : (s.respond status data).pbuf = s.pbuf := rfl
@[simp] theorem State.respond_fstate (status : BitVec 3) (data : Datum) : (s.respond status data).fstate = s.fstate := rfl
@[simp] theorem State.respond_sst (status : BitVec 3) (data : Datum) : (s.respond status data).sst = s.sst := rfl
@[simp] theorem State.respond_phase (status : BitVec 3) (data : Datum) : (s.respond status data).phase = s.phase := rfl
@[simp] theorem State.respond_cchunk (status : BitVec 3) (data : Datum) : (s.respond status data).cchunk = s.cchunk := rfl
@[simp] theorem State.respond_ccol (status : BitVec 3) (data : Datum) : (s.respond status data).ccol = s.ccol := rfl
@[simp] theorem State.respond_sPid (status : BitVec 3) (data : Datum) : (s.respond status data).sPid = s.sPid := rfl
@[simp] theorem State.respond_sAddr (status : BitVec 3) (data : Datum) : (s.respond status data).sAddr = s.sAddr := rfl
@[simp] theorem State.respond_sW (status : BitVec 3) (data : Datum) : (s.respond status data).sW = s.sW := rfl
@[simp] theorem State.respond_sH (status : BitVec 3) (data : Datum) : (s.respond status data).sH = s.sH := rfl
@[simp] theorem State.respond_pix (status : BitVec 3) (data : Datum) : (s.respond status data).pix = s.pix := rfl
@[simp] theorem State.respond_rspStatus (status : BitVec 3) (data : Datum) : (s.respond status data).rspStatus = status := rfl
@[simp] theorem State.respond_rspData (status : BitVec 3) (data : Datum) : (s.respond status data).rspData = data := rfl
@[simp] theorem State.respond_tx (status : BitVec 3) (data : Datum) : (s.respond status data).tx = s.tx := rfl

/-! ### emit -/

@[simp] theorem State.emit_cfg (bytes : List Byte) : (s.emit bytes).cfg = s.cfg := rfl
@[simp] theorem State.emit_cmd (bytes : List Byte) : (s.emit bytes).cmd = s.cmd := rfl
@[simp] theorem State.emit_pid (bytes : List Byte) : (s.emit bytes).pid = s.pid := rfl
@[simp] theorem State.emit_pvalid (bytes : List Byte) : (s.emit bytes).pvalid = s.pvalid := rfl
@[simp] theorem State.emit_addr (bytes : List Byte) : (s.emit bytes).addr = s.addr := rfl
@[simp] theorem State.emit_width (bytes : List Byte) : (s.emit bytes).width = s.width := rfl
@[simp] theorem State.emit_height (bytes : List Byte) : (s.emit bytes).height = s.height := rfl
@[simp] theorem State.emit_acc (bytes : List Byte) : (s.emit bytes).acc = s.acc := rfl
@[simp] theorem State.emit_cmdb (bytes : List Byte) : (s.emit bytes).cmdb = s.cmdb := rfl
@[simp] theorem State.emit_plen (bytes : List Byte) : (s.emit bytes).plen = s.plen := rfl
@[simp] theorem State.emit_pbuf (bytes : List Byte) : (s.emit bytes).pbuf = s.pbuf := rfl
@[simp] theorem State.emit_fstate (bytes : List Byte) : (s.emit bytes).fstate = s.fstate := rfl
@[simp] theorem State.emit_sst (bytes : List Byte) : (s.emit bytes).sst = s.sst := rfl
@[simp] theorem State.emit_phase (bytes : List Byte) : (s.emit bytes).phase = s.phase := rfl
@[simp] theorem State.emit_cchunk (bytes : List Byte) : (s.emit bytes).cchunk = s.cchunk := rfl
@[simp] theorem State.emit_ccol (bytes : List Byte) : (s.emit bytes).ccol = s.ccol := rfl
@[simp] theorem State.emit_sPid (bytes : List Byte) : (s.emit bytes).sPid = s.sPid := rfl
@[simp] theorem State.emit_sAddr (bytes : List Byte) : (s.emit bytes).sAddr = s.sAddr := rfl
@[simp] theorem State.emit_sW (bytes : List Byte) : (s.emit bytes).sW = s.sW := rfl
@[simp] theorem State.emit_sH (bytes : List Byte) : (s.emit bytes).sH = s.sH := rfl
@[simp] theorem State.emit_pix (bytes : List Byte) : (s.emit bytes).pix = s.pix := rfl
@[simp] theorem State.emit_rspStatus (bytes : List Byte) : (s.emit bytes).rspStatus = s.rspStatus := rfl
@[simp] theorem State.emit_rspData (bytes : List Byte) : (s.emit bytes).rspData = s.rspData := rfl
@[simp] theorem State.emit_tx (bytes : List Byte) : (s.emit bytes).tx = s.tx ++ bytes := rfl

/-! ### setAcc -/

@[simp] theorem State.setAcc_cfg (v : Byte) : (s.setAcc v).cfg = s.cfg := rfl
@[simp] theorem State.setAcc_cmd (v : Byte) : (s.setAcc v).cmd = s.cmd := rfl
@[simp] theorem State.setAcc_pid (v : Byte) : (s.setAcc v).pid = s.pid := rfl
@[simp] theorem State.setAcc_pvalid (v : Byte) : (s.setAcc v).pvalid = s.pvalid := rfl
@[simp] theorem State.setAcc_addr (v : Byte) : (s.setAcc v).addr = s.addr := rfl
@[simp] theorem State.setAcc_width (v : Byte) : (s.setAcc v).width = s.width := rfl
@[simp] theorem State.setAcc_height (v : Byte) : (s.setAcc v).height = s.height := rfl
@[simp] theorem State.setAcc_acc (v : Byte) : (s.setAcc v).acc = v := rfl
@[simp] theorem State.setAcc_cmdb (v : Byte) : (s.setAcc v).cmdb = s.cmdb := rfl
@[simp] theorem State.setAcc_plen (v : Byte) : (s.setAcc v).plen = s.plen := rfl
@[simp] theorem State.setAcc_pbuf (v : Byte) : (s.setAcc v).pbuf = s.pbuf := rfl
@[simp] theorem State.setAcc_fstate (v : Byte) : (s.setAcc v).fstate = s.fstate := rfl
@[simp] theorem State.setAcc_sst (v : Byte) : (s.setAcc v).sst = s.sst := rfl
@[simp] theorem State.setAcc_phase (v : Byte) : (s.setAcc v).phase = s.phase := rfl
@[simp] theorem State.setAcc_cchunk (v : Byte) : (s.setAcc v).cchunk = s.cchunk := rfl
@[simp] theorem State.setAcc_ccol (v : Byte) : (s.setAcc v).ccol = s.ccol := rfl
@[simp] theorem State.setAcc_sPid (v : Byte) : (s.setAcc v).sPid = s.sPid := rfl
@[simp] theorem State.setAcc_sAddr (v : Byte) : (s.setAcc v).sAddr = s.sAddr := rfl
@[simp] theorem State.setAcc_sW (v : Byte) : (s.setAcc v).sW = s.sW := rfl
@[simp] theorem State.setAcc_sH (v : Byte) : (s.setAcc v).sH = s.sH := rfl
@[simp] theorem State.setAcc_pix (v : Byte) : (s.setAcc v).pix = s.pix := rfl
@[simp] theorem State.setAcc_rspStatus (v : Byte) : (s.setAcc v).rspStatus = s.rspStatus := rfl
@[simp] theorem State.setAcc_rspData (v : Byte) : (s.setAcc v).rspData = s.rspData := rfl
@[simp] theorem State.setAcc_tx (v : Byte) : (s.setAcc v).tx = s.tx := rfl

/-! ### setCmdb -/

@[simp] theorem State.setCmdb_cfg (v : Byte) : (s.setCmdb v).cfg = s.cfg := rfl
@[simp] theorem State.setCmdb_cmd (v : Byte) : (s.setCmdb v).cmd = s.cmd := rfl
@[simp] theorem State.setCmdb_pid (v : Byte) : (s.setCmdb v).pid = s.pid := rfl
@[simp] theorem State.setCmdb_pvalid (v : Byte) : (s.setCmdb v).pvalid = s.pvalid := rfl
@[simp] theorem State.setCmdb_addr (v : Byte) : (s.setCmdb v).addr = s.addr := rfl
@[simp] theorem State.setCmdb_width (v : Byte) : (s.setCmdb v).width = s.width := rfl
@[simp] theorem State.setCmdb_height (v : Byte) : (s.setCmdb v).height = s.height := rfl
@[simp] theorem State.setCmdb_acc (v : Byte) : (s.setCmdb v).acc = s.acc := rfl
@[simp] theorem State.setCmdb_cmdb (v : Byte) : (s.setCmdb v).cmdb = v := rfl
@[simp] theorem State.setCmdb_plen (v : Byte) : (s.setCmdb v).plen = s.plen := rfl
@[simp] theorem State.setCmdb_pbuf (v : Byte) : (s.setCmdb v).pbuf = s.pbuf := rfl
@[simp] theorem State.setCmdb_fstate (v : Byte) : (s.setCmdb v).fstate = s.fstate := rfl
@[simp] theorem State.setCmdb_sst (v : Byte) : (s.setCmdb v).sst = s.sst := rfl
@[simp] theorem State.setCmdb_phase (v : Byte) : (s.setCmdb v).phase = s.phase := rfl
@[simp] theorem State.setCmdb_cchunk (v : Byte) : (s.setCmdb v).cchunk = s.cchunk := rfl
@[simp] theorem State.setCmdb_ccol (v : Byte) : (s.setCmdb v).ccol = s.ccol := rfl
@[simp] theorem State.setCmdb_sPid (v : Byte) : (s.setCmdb v).sPid = s.sPid := rfl
@[simp] theorem State.setCmdb_sAddr (v : Byte) : (s.setCmdb v).sAddr = s.sAddr := rfl
@[simp] theorem State.setCmdb_sW (v : Byte) : (s.setCmdb v).sW = s.sW := rfl
@[simp] theorem State.setCmdb_sH (v : Byte) : (s.setCmdb v).sH = s.sH := rfl
@[simp] theorem State.setCmdb_pix (v : Byte) : (s.setCmdb v).pix = s.pix := rfl
@[simp] theorem State.setCmdb_rspStatus (v : Byte) : (s.setCmdb v).rspStatus = s.rspStatus := rfl
@[simp] theorem State.setCmdb_rspData (v : Byte) : (s.setCmdb v).rspData = s.rspData := rfl
@[simp] theorem State.setCmdb_tx (v : Byte) : (s.setCmdb v).tx = s.tx := rfl

/-! ### setPlen -/

@[simp] theorem State.setPlen_cfg (n : Nat) : (s.setPlen n).cfg = s.cfg := rfl
@[simp] theorem State.setPlen_cmd (n : Nat) : (s.setPlen n).cmd = s.cmd := rfl
@[simp] theorem State.setPlen_pid (n : Nat) : (s.setPlen n).pid = s.pid := rfl
@[simp] theorem State.setPlen_pvalid (n : Nat) : (s.setPlen n).pvalid = s.pvalid := rfl
@[simp] theorem State.setPlen_addr (n : Nat) : (s.setPlen n).addr = s.addr := rfl
@[simp] theorem State.setPlen_width (n : Nat) : (s.setPlen n).width = s.width := rfl
@[simp] theorem State.setPlen_height (n : Nat) : (s.setPlen n).height = s.height := rfl
@[simp] theorem State.setPlen_acc (n : Nat) : (s.setPlen n).acc = s.acc := rfl
@[simp] theorem State.setPlen_cmdb (n : Nat) : (s.setPlen n).cmdb = s.cmdb := rfl
@[simp] theorem State.setPlen_plen (n : Nat) : (s.setPlen n).plen = BitVec.ofNat 9 n := rfl
@[simp] theorem State.setPlen_pbuf (n : Nat) : (s.setPlen n).pbuf = s.pbuf := rfl
@[simp] theorem State.setPlen_fstate (n : Nat) : (s.setPlen n).fstate = s.fstate := rfl
@[simp] theorem State.setPlen_sst (n : Nat) : (s.setPlen n).sst = s.sst := rfl
@[simp] theorem State.setPlen_phase (n : Nat) : (s.setPlen n).phase = s.phase := rfl
@[simp] theorem State.setPlen_cchunk (n : Nat) : (s.setPlen n).cchunk = s.cchunk := rfl
@[simp] theorem State.setPlen_ccol (n : Nat) : (s.setPlen n).ccol = s.ccol := rfl
@[simp] theorem State.setPlen_sPid (n : Nat) : (s.setPlen n).sPid = s.sPid := rfl
@[simp] theorem State.setPlen_sAddr (n : Nat) : (s.setPlen n).sAddr = s.sAddr := rfl
@[simp] theorem State.setPlen_sW (n : Nat) : (s.setPlen n).sW = s.sW := rfl
@[simp] theorem State.setPlen_sH (n : Nat) : (s.setPlen n).sH = s.sH := rfl
@[simp] theorem State.setPlen_pix (n : Nat) : (s.setPlen n).pix = s.pix := rfl
@[simp] theorem State.setPlen_rspStatus (n : Nat) : (s.setPlen n).rspStatus = s.rspStatus := rfl
@[simp] theorem State.setPlen_rspData (n : Nat) : (s.setPlen n).rspData = s.rspData := rfl
@[simp] theorem State.setPlen_tx (n : Nat) : (s.setPlen n).tx = s.tx := rfl

/-! ### storePayload -/

@[simp] theorem State.storePayload_cfg (base : Nat) (bytes : List Byte) : (s.storePayload base bytes).cfg = s.cfg := rfl
@[simp] theorem State.storePayload_cmd (base : Nat) (bytes : List Byte) : (s.storePayload base bytes).cmd = s.cmd := rfl
@[simp] theorem State.storePayload_pid (base : Nat) (bytes : List Byte) : (s.storePayload base bytes).pid = s.pid := rfl
@[simp] theorem State.storePayload_pvalid (base : Nat) (bytes : List Byte) : (s.storePayload base bytes).pvalid = s.pvalid := rfl
@[simp] theorem State.storePayload_addr (base : Nat) (bytes : List Byte) : (s.storePayload base bytes).addr = s.addr := rfl
@[simp] theorem State.storePayload_width (base : Nat) (bytes : List Byte) : (s.storePayload base bytes).width = s.width := rfl
@[simp] theorem State.storePayload_height (base : Nat) (bytes : List Byte) : (s.storePayload base bytes).height = s.height := rfl
@[simp] theorem State.storePayload_acc (base : Nat) (bytes : List Byte) : (s.storePayload base bytes).acc = s.acc := rfl
@[simp] theorem State.storePayload_cmdb (base : Nat) (bytes : List Byte) : (s.storePayload base bytes).cmdb = s.cmdb := rfl
@[simp] theorem State.storePayload_plen (base : Nat) (bytes : List Byte) : (s.storePayload base bytes).plen = s.plen := rfl
@[simp] theorem State.storePayload_pbuf (base : Nat) (bytes : List Byte) : (s.storePayload base bytes).pbuf = s.pbuf.writeList base bytes := rfl
@[simp] theorem State.storePayload_fstate (base : Nat) (bytes : List Byte) : (s.storePayload base bytes).fstate = s.fstate := rfl
@[simp] theorem State.storePayload_sst (base : Nat) (bytes : List Byte) : (s.storePayload base bytes).sst = s.sst := rfl
@[simp] theorem State.storePayload_phase (base : Nat) (bytes : List Byte) : (s.storePayload base bytes).phase = s.phase := rfl
@[simp] theorem State.storePayload_cchunk (base : Nat) (bytes : List Byte) : (s.storePayload base bytes).cchunk = s.cchunk := rfl
@[simp] theorem State.storePayload_ccol (base : Nat) (bytes : List Byte) : (s.storePayload base bytes).ccol = s.ccol := rfl
@[simp] theorem State.storePayload_sPid (base : Nat) (bytes : List Byte) : (s.storePayload base bytes).sPid = s.sPid := rfl
@[simp] theorem State.storePayload_sAddr (base : Nat) (bytes : List Byte) : (s.storePayload base bytes).sAddr = s.sAddr := rfl
@[simp] theorem State.storePayload_sW (base : Nat) (bytes : List Byte) : (s.storePayload base bytes).sW = s.sW := rfl
@[simp] theorem State.storePayload_sH (base : Nat) (bytes : List Byte) : (s.storePayload base bytes).sH = s.sH := rfl
@[simp] theorem State.storePayload_pix (base : Nat) (bytes : List Byte) : (s.storePayload base bytes).pix = s.pix := rfl
@[simp] theorem State.storePayload_rspStatus (base : Nat) (bytes : List Byte) : (s.storePayload base bytes).rspStatus = s.rspStatus := rfl
@[simp] theorem State.storePayload_rspData (base : Nat) (bytes : List Byte) : (s.storePayload base bytes).rspData = s.rspData := rfl
@[simp] theorem State.storePayload_tx (base : Nat) (bytes : List Byte) : (s.storePayload base bytes).tx = s.tx := rfl

/-! ### storePixel -/

@[simp] theorem State.storePixel_cfg (i : Nat) (v : Pixel) : (s.storePixel i v).cfg = s.cfg := rfl
@[simp] theorem State.storePixel_cmd (i : Nat) (v : Pixel) : (s.storePixel i v).cmd = s.cmd := rfl
@[simp] theorem State.storePixel_pid (i : Nat) (v : Pixel) : (s.storePixel i v).pid = s.pid := rfl
@[simp] theorem State.storePixel_pvalid (i : Nat) (v : Pixel) : (s.storePixel i v).pvalid = s.pvalid := rfl
@[simp] theorem State.storePixel_addr (i : Nat) (v : Pixel) : (s.storePixel i v).addr = s.addr := rfl
@[simp] theorem State.storePixel_width (i : Nat) (v : Pixel) : (s.storePixel i v).width = s.width := rfl
@[simp] theorem State.storePixel_height (i : Nat) (v : Pixel) : (s.storePixel i v).height = s.height := rfl
@[simp] theorem State.storePixel_acc (i : Nat) (v : Pixel) : (s.storePixel i v).acc = s.acc := rfl
@[simp] theorem State.storePixel_cmdb (i : Nat) (v : Pixel) : (s.storePixel i v).cmdb = s.cmdb := rfl
@[simp] theorem State.storePixel_plen (i : Nat) (v : Pixel) : (s.storePixel i v).plen = s.plen := rfl
@[simp] theorem State.storePixel_pbuf (i : Nat) (v : Pixel) : (s.storePixel i v).pbuf = s.pbuf := rfl
@[simp] theorem State.storePixel_fstate (i : Nat) (v : Pixel) : (s.storePixel i v).fstate = s.fstate := rfl
@[simp] theorem State.storePixel_sst (i : Nat) (v : Pixel) : (s.storePixel i v).sst = s.sst := rfl
@[simp] theorem State.storePixel_phase (i : Nat) (v : Pixel) : (s.storePixel i v).phase = s.phase := rfl
@[simp] theorem State.storePixel_cchunk (i : Nat) (v : Pixel) : (s.storePixel i v).cchunk = s.cchunk := rfl
@[simp] theorem State.storePixel_ccol (i : Nat) (v : Pixel) : (s.storePixel i v).ccol = s.ccol := rfl
@[simp] theorem State.storePixel_sPid (i : Nat) (v : Pixel) : (s.storePixel i v).sPid = s.sPid := rfl
@[simp] theorem State.storePixel_sAddr (i : Nat) (v : Pixel) : (s.storePixel i v).sAddr = s.sAddr := rfl
@[simp] theorem State.storePixel_sW (i : Nat) (v : Pixel) : (s.storePixel i v).sW = s.sW := rfl
@[simp] theorem State.storePixel_sH (i : Nat) (v : Pixel) : (s.storePixel i v).sH = s.sH := rfl
@[simp] theorem State.storePixel_pix (i : Nat) (v : Pixel) : (s.storePixel i v).pix = s.pix.write i v := rfl
@[simp] theorem State.storePixel_rspStatus (i : Nat) (v : Pixel) : (s.storePixel i v).rspStatus = s.rspStatus := rfl
@[simp] theorem State.storePixel_rspData (i : Nat) (v : Pixel) : (s.storePixel i v).rspData = s.rspData := rfl
@[simp] theorem State.storePixel_tx (i : Nat) (v : Pixel) : (s.storePixel i v).tx = s.tx := rfl

/-! ### setFstate -/

@[simp] theorem State.setFstate_cfg (f : FramerState) : (s.setFstate f).cfg = s.cfg := rfl
@[simp] theorem State.setFstate_cmd (f : FramerState) : (s.setFstate f).cmd = s.cmd := rfl
@[simp] theorem State.setFstate_pid (f : FramerState) : (s.setFstate f).pid = s.pid := rfl
@[simp] theorem State.setFstate_pvalid (f : FramerState) : (s.setFstate f).pvalid = s.pvalid := rfl
@[simp] theorem State.setFstate_addr (f : FramerState) : (s.setFstate f).addr = s.addr := rfl
@[simp] theorem State.setFstate_width (f : FramerState) : (s.setFstate f).width = s.width := rfl
@[simp] theorem State.setFstate_height (f : FramerState) : (s.setFstate f).height = s.height := rfl
@[simp] theorem State.setFstate_acc (f : FramerState) : (s.setFstate f).acc = s.acc := rfl
@[simp] theorem State.setFstate_cmdb (f : FramerState) : (s.setFstate f).cmdb = s.cmdb := rfl
@[simp] theorem State.setFstate_plen (f : FramerState) : (s.setFstate f).plen = s.plen := rfl
@[simp] theorem State.setFstate_pbuf (f : FramerState) : (s.setFstate f).pbuf = s.pbuf := rfl
@[simp] theorem State.setFstate_fstate (f : FramerState) : (s.setFstate f).fstate = f := rfl
@[simp] theorem State.setFstate_sst (f : FramerState) : (s.setFstate f).sst = s.sst := rfl
@[simp] theorem State.setFstate_phase (f : FramerState) : (s.setFstate f).phase = s.phase := rfl
@[simp] theorem State.setFstate_cchunk (f : FramerState) : (s.setFstate f).cchunk = s.cchunk := rfl
@[simp] theorem State.setFstate_ccol (f : FramerState) : (s.setFstate f).ccol = s.ccol := rfl
@[simp] theorem State.setFstate_sPid (f : FramerState) : (s.setFstate f).sPid = s.sPid := rfl
@[simp] theorem State.setFstate_sAddr (f : FramerState) : (s.setFstate f).sAddr = s.sAddr := rfl
@[simp] theorem State.setFstate_sW (f : FramerState) : (s.setFstate f).sW = s.sW := rfl
@[simp] theorem State.setFstate_sH (f : FramerState) : (s.setFstate f).sH = s.sH := rfl
@[simp] theorem State.setFstate_pix (f : FramerState) : (s.setFstate f).pix = s.pix := rfl
@[simp] theorem State.setFstate_rspStatus (f : FramerState) : (s.setFstate f).rspStatus = s.rspStatus := rfl
@[simp] theorem State.setFstate_rspData (f : FramerState) : (s.setFstate f).rspData = s.rspData := rfl
@[simp] theorem State.setFstate_tx (f : FramerState) : (s.setFstate f).tx = s.tx := rfl

/-! ### setProfile -/

@[simp] theorem State.setProfile_cfg (v : BitVec 1) (p : BitVec 2) : (s.setProfile v p).cfg = s.cfg := rfl
@[simp] theorem State.setProfile_cmd (v : BitVec 1) (p : BitVec 2) : (s.setProfile v p).cmd = s.cmd := rfl
@[simp] theorem State.setProfile_pid (v : BitVec 1) (p : BitVec 2) : (s.setProfile v p).pid = p := rfl
@[simp] theorem State.setProfile_pvalid (v : BitVec 1) (p : BitVec 2) : (s.setProfile v p).pvalid = v := rfl
@[simp] theorem State.setProfile_addr (v : BitVec 1) (p : BitVec 2) : (s.setProfile v p).addr = s.addr := rfl
@[simp] theorem State.setProfile_width (v : BitVec 1) (p : BitVec 2) : (s.setProfile v p).width = s.width := rfl
@[simp] theorem State.setProfile_height (v : BitVec 1) (p : BitVec 2) : (s.setProfile v p).height = s.height := rfl
@[simp] theorem State.setProfile_acc (v : BitVec 1) (p : BitVec 2) : (s.setProfile v p).acc = s.acc := rfl
@[simp] theorem State.setProfile_cmdb (v : BitVec 1) (p : BitVec 2) : (s.setProfile v p).cmdb = s.cmdb := rfl
@[simp] theorem State.setProfile_plen (v : BitVec 1) (p : BitVec 2) : (s.setProfile v p).plen = s.plen := rfl
@[simp] theorem State.setProfile_pbuf (v : BitVec 1) (p : BitVec 2) : (s.setProfile v p).pbuf = s.pbuf := rfl
@[simp] theorem State.setProfile_fstate (v : BitVec 1) (p : BitVec 2) : (s.setProfile v p).fstate = s.fstate := rfl
@[simp] theorem State.setProfile_sst (v : BitVec 1) (p : BitVec 2) : (s.setProfile v p).sst = s.sst := rfl
@[simp] theorem State.setProfile_phase (v : BitVec 1) (p : BitVec 2) : (s.setProfile v p).phase = s.phase := rfl
@[simp] theorem State.setProfile_cchunk (v : BitVec 1) (p : BitVec 2) : (s.setProfile v p).cchunk = s.cchunk := rfl
@[simp] theorem State.setProfile_ccol (v : BitVec 1) (p : BitVec 2) : (s.setProfile v p).ccol = s.ccol := rfl
@[simp] theorem State.setProfile_sPid (v : BitVec 1) (p : BitVec 2) : (s.setProfile v p).sPid = s.sPid := rfl
@[simp] theorem State.setProfile_sAddr (v : BitVec 1) (p : BitVec 2) : (s.setProfile v p).sAddr = s.sAddr := rfl
@[simp] theorem State.setProfile_sW (v : BitVec 1) (p : BitVec 2) : (s.setProfile v p).sW = s.sW := rfl
@[simp] theorem State.setProfile_sH (v : BitVec 1) (p : BitVec 2) : (s.setProfile v p).sH = s.sH := rfl
@[simp] theorem State.setProfile_pix (v : BitVec 1) (p : BitVec 2) : (s.setProfile v p).pix = s.pix := rfl
@[simp] theorem State.setProfile_rspStatus (v : BitVec 1) (p : BitVec 2) : (s.setProfile v p).rspStatus = s.rspStatus := rfl
@[simp] theorem State.setProfile_rspData (v : BitVec 1) (p : BitVec 2) : (s.setProfile v p).rspData = s.rspData := rfl
@[simp] theorem State.setProfile_tx (v : BitVec 1) (p : BitVec 2) : (s.setProfile v p).tx = s.tx := rfl

/-! ### setAddr -/

@[simp] theorem State.setAddr_cfg (a : Nibble) : (s.setAddr a).cfg = s.cfg := rfl
@[simp] theorem State.setAddr_cmd (a : Nibble) : (s.setAddr a).cmd = s.cmd := rfl
@[simp] theorem State.setAddr_pid (a : Nibble) : (s.setAddr a).pid = s.pid := rfl
@[simp] theorem State.setAddr_pvalid (a : Nibble) : (s.setAddr a).pvalid = s.pvalid := rfl
@[simp] theorem State.setAddr_addr (a : Nibble) : (s.setAddr a).addr = a := rfl
@[simp] theorem State.setAddr_width (a : Nibble) : (s.setAddr a).width = s.width := rfl
@[simp] theorem State.setAddr_height (a : Nibble) : (s.setAddr a).height = s.height := rfl
@[simp] theorem State.setAddr_acc (a : Nibble) : (s.setAddr a).acc = s.acc := rfl
@[simp] theorem State.setAddr_cmdb (a : Nibble) : (s.setAddr a).cmdb = s.cmdb := rfl
@[simp] theorem State.setAddr_plen (a : Nibble) : (s.setAddr a).plen = s.plen := rfl
@[simp] theorem State.setAddr_pbuf (a : Nibble) : (s.setAddr a).pbuf = s.pbuf := rfl
@[simp] theorem State.setAddr_fstate (a : Nibble) : (s.setAddr a).fstate = s.fstate := rfl
@[simp] theorem State.setAddr_sst (a : Nibble) : (s.setAddr a).sst = s.sst := rfl
@[simp] theorem State.setAddr_phase (a : Nibble) : (s.setAddr a).phase = s.phase := rfl
@[simp] theorem State.setAddr_cchunk (a : Nibble) : (s.setAddr a).cchunk = s.cchunk := rfl
@[simp] theorem State.setAddr_ccol (a : Nibble) : (s.setAddr a).ccol = s.ccol := rfl
@[simp] theorem State.setAddr_sPid (a : Nibble) : (s.setAddr a).sPid = s.sPid := rfl
@[simp] theorem State.setAddr_sAddr (a : Nibble) : (s.setAddr a).sAddr = s.sAddr := rfl
@[simp] theorem State.setAddr_sW (a : Nibble) : (s.setAddr a).sW = s.sW := rfl
@[simp] theorem State.setAddr_sH (a : Nibble) : (s.setAddr a).sH = s.sH := rfl
@[simp] theorem State.setAddr_pix (a : Nibble) : (s.setAddr a).pix = s.pix := rfl
@[simp] theorem State.setAddr_rspStatus (a : Nibble) : (s.setAddr a).rspStatus = s.rspStatus := rfl
@[simp] theorem State.setAddr_rspData (a : Nibble) : (s.setAddr a).rspData = s.rspData := rfl
@[simp] theorem State.setAddr_tx (a : Nibble) : (s.setAddr a).tx = s.tx := rfl

/-! ### setWidth -/

@[simp] theorem State.setWidth_cfg (v : BitVec 9) : (s.setWidth v).cfg = s.cfg := rfl
@[simp] theorem State.setWidth_cmd (v : BitVec 9) : (s.setWidth v).cmd = s.cmd := rfl
@[simp] theorem State.setWidth_pid (v : BitVec 9) : (s.setWidth v).pid = s.pid := rfl
@[simp] theorem State.setWidth_pvalid (v : BitVec 9) : (s.setWidth v).pvalid = s.pvalid := rfl
@[simp] theorem State.setWidth_addr (v : BitVec 9) : (s.setWidth v).addr = s.addr := rfl
@[simp] theorem State.setWidth_width (v : BitVec 9) : (s.setWidth v).width = v := rfl
@[simp] theorem State.setWidth_height (v : BitVec 9) : (s.setWidth v).height = s.height := rfl
@[simp] theorem State.setWidth_acc (v : BitVec 9) : (s.setWidth v).acc = s.acc := rfl
@[simp] theorem State.setWidth_cmdb (v : BitVec 9) : (s.setWidth v).cmdb = s.cmdb := rfl
@[simp] theorem State.setWidth_plen (v : BitVec 9) : (s.setWidth v).plen = s.plen := rfl
@[simp] theorem State.setWidth_pbuf (v : BitVec 9) : (s.setWidth v).pbuf = s.pbuf := rfl
@[simp] theorem State.setWidth_fstate (v : BitVec 9) : (s.setWidth v).fstate = s.fstate := rfl
@[simp] theorem State.setWidth_sst (v : BitVec 9) : (s.setWidth v).sst = s.sst := rfl
@[simp] theorem State.setWidth_phase (v : BitVec 9) : (s.setWidth v).phase = s.phase := rfl
@[simp] theorem State.setWidth_cchunk (v : BitVec 9) : (s.setWidth v).cchunk = s.cchunk := rfl
@[simp] theorem State.setWidth_ccol (v : BitVec 9) : (s.setWidth v).ccol = s.ccol := rfl
@[simp] theorem State.setWidth_sPid (v : BitVec 9) : (s.setWidth v).sPid = s.sPid := rfl
@[simp] theorem State.setWidth_sAddr (v : BitVec 9) : (s.setWidth v).sAddr = s.sAddr := rfl
@[simp] theorem State.setWidth_sW (v : BitVec 9) : (s.setWidth v).sW = s.sW := rfl
@[simp] theorem State.setWidth_sH (v : BitVec 9) : (s.setWidth v).sH = s.sH := rfl
@[simp] theorem State.setWidth_pix (v : BitVec 9) : (s.setWidth v).pix = s.pix := rfl
@[simp] theorem State.setWidth_rspStatus (v : BitVec 9) : (s.setWidth v).rspStatus = s.rspStatus := rfl
@[simp] theorem State.setWidth_rspData (v : BitVec 9) : (s.setWidth v).rspData = s.rspData := rfl
@[simp] theorem State.setWidth_tx (v : BitVec 9) : (s.setWidth v).tx = s.tx := rfl

/-! ### setHeight -/

@[simp] theorem State.setHeight_cfg (v : BitVec 9) : (s.setHeight v).cfg = s.cfg := rfl
@[simp] theorem State.setHeight_cmd (v : BitVec 9) : (s.setHeight v).cmd = s.cmd := rfl
@[simp] theorem State.setHeight_pid (v : BitVec 9) : (s.setHeight v).pid = s.pid := rfl
@[simp] theorem State.setHeight_pvalid (v : BitVec 9) : (s.setHeight v).pvalid = s.pvalid := rfl
@[simp] theorem State.setHeight_addr (v : BitVec 9) : (s.setHeight v).addr = s.addr := rfl
@[simp] theorem State.setHeight_width (v : BitVec 9) : (s.setHeight v).width = s.width := rfl
@[simp] theorem State.setHeight_height (v : BitVec 9) : (s.setHeight v).height = v := rfl
@[simp] theorem State.setHeight_acc (v : BitVec 9) : (s.setHeight v).acc = s.acc := rfl
@[simp] theorem State.setHeight_cmdb (v : BitVec 9) : (s.setHeight v).cmdb = s.cmdb := rfl
@[simp] theorem State.setHeight_plen (v : BitVec 9) : (s.setHeight v).plen = s.plen := rfl
@[simp] theorem State.setHeight_pbuf (v : BitVec 9) : (s.setHeight v).pbuf = s.pbuf := rfl
@[simp] theorem State.setHeight_fstate (v : BitVec 9) : (s.setHeight v).fstate = s.fstate := rfl
@[simp] theorem State.setHeight_sst (v : BitVec 9) : (s.setHeight v).sst = s.sst := rfl
@[simp] theorem State.setHeight_phase (v : BitVec 9) : (s.setHeight v).phase = s.phase := rfl
@[simp] theorem State.setHeight_cchunk (v : BitVec 9) : (s.setHeight v).cchunk = s.cchunk := rfl
@[simp] theorem State.setHeight_ccol (v : BitVec 9) : (s.setHeight v).ccol = s.ccol := rfl
@[simp] theorem State.setHeight_sPid (v : BitVec 9) : (s.setHeight v).sPid = s.sPid := rfl
@[simp] theorem State.setHeight_sAddr (v : BitVec 9) : (s.setHeight v).sAddr = s.sAddr := rfl
@[simp] theorem State.setHeight_sW (v : BitVec 9) : (s.setHeight v).sW = s.sW := rfl
@[simp] theorem State.setHeight_sH (v : BitVec 9) : (s.setHeight v).sH = s.sH := rfl
@[simp] theorem State.setHeight_pix (v : BitVec 9) : (s.setHeight v).pix = s.pix := rfl
@[simp] theorem State.setHeight_rspStatus (v : BitVec 9) : (s.setHeight v).rspStatus = s.rspStatus := rfl
@[simp] theorem State.setHeight_rspData (v : BitVec 9) : (s.setHeight v).rspData = s.rspData := rfl
@[simp] theorem State.setHeight_tx (v : BitVec 9) : (s.setHeight v).tx = s.tx := rfl

/-! ### setCursor -/

@[simp] theorem State.setCursor_cfg (st : SessionState) (ph : Phase) (k c : Nat) : (s.setCursor st ph k c).cfg = s.cfg := rfl
@[simp] theorem State.setCursor_cmd (st : SessionState) (ph : Phase) (k c : Nat) : (s.setCursor st ph k c).cmd = s.cmd := rfl
@[simp] theorem State.setCursor_pid (st : SessionState) (ph : Phase) (k c : Nat) : (s.setCursor st ph k c).pid = s.pid := rfl
@[simp] theorem State.setCursor_pvalid (st : SessionState) (ph : Phase) (k c : Nat) : (s.setCursor st ph k c).pvalid = s.pvalid := rfl
@[simp] theorem State.setCursor_addr (st : SessionState) (ph : Phase) (k c : Nat) : (s.setCursor st ph k c).addr = s.addr := rfl
@[simp] theorem State.setCursor_width (st : SessionState) (ph : Phase) (k c : Nat) : (s.setCursor st ph k c).width = s.width := rfl
@[simp] theorem State.setCursor_height (st : SessionState) (ph : Phase) (k c : Nat) : (s.setCursor st ph k c).height = s.height := rfl
@[simp] theorem State.setCursor_acc (st : SessionState) (ph : Phase) (k c : Nat) : (s.setCursor st ph k c).acc = s.acc := rfl
@[simp] theorem State.setCursor_cmdb (st : SessionState) (ph : Phase) (k c : Nat) : (s.setCursor st ph k c).cmdb = s.cmdb := rfl
@[simp] theorem State.setCursor_plen (st : SessionState) (ph : Phase) (k c : Nat) : (s.setCursor st ph k c).plen = s.plen := rfl
@[simp] theorem State.setCursor_pbuf (st : SessionState) (ph : Phase) (k c : Nat) : (s.setCursor st ph k c).pbuf = s.pbuf := rfl
@[simp] theorem State.setCursor_fstate (st : SessionState) (ph : Phase) (k c : Nat) : (s.setCursor st ph k c).fstate = s.fstate := rfl
@[simp] theorem State.setCursor_sst (st : SessionState) (ph : Phase) (k c : Nat) : (s.setCursor st ph k c).sst = st := rfl
@[simp] theorem State.setCursor_phase (st : SessionState) (ph : Phase) (k c : Nat) : (s.setCursor st ph k c).phase = ph := rfl
@[simp] theorem State.setCursor_cchunk (st : SessionState) (ph : Phase) (k c : Nat) : (s.setCursor st ph k c).cchunk = BitVec.ofNat 8 k := rfl
@[simp] theorem State.setCursor_ccol (st : SessionState) (ph : Phase) (k c : Nat) : (s.setCursor st ph k c).ccol = BitVec.ofNat 8 c := rfl
@[simp] theorem State.setCursor_sPid (st : SessionState) (ph : Phase) (k c : Nat) : (s.setCursor st ph k c).sPid = s.sPid := rfl
@[simp] theorem State.setCursor_sAddr (st : SessionState) (ph : Phase) (k c : Nat) : (s.setCursor st ph k c).sAddr = s.sAddr := rfl
@[simp] theorem State.setCursor_sW (st : SessionState) (ph : Phase) (k c : Nat) : (s.setCursor st ph k c).sW = s.sW := rfl
@[simp] theorem State.setCursor_sH (st : SessionState) (ph : Phase) (k c : Nat) : (s.setCursor st ph k c).sH = s.sH := rfl
@[simp] theorem State.setCursor_pix (st : SessionState) (ph : Phase) (k c : Nat) : (s.setCursor st ph k c).pix = s.pix := rfl
@[simp] theorem State.setCursor_rspStatus (st : SessionState) (ph : Phase) (k c : Nat) : (s.setCursor st ph k c).rspStatus = s.rspStatus := rfl
@[simp] theorem State.setCursor_rspData (st : SessionState) (ph : Phase) (k c : Nat) : (s.setCursor st ph k c).rspData = s.rspData := rfl
@[simp] theorem State.setCursor_tx (st : SessionState) (ph : Phase) (k c : Nat) : (s.setCursor st ph k c).tx = s.tx := rfl

/-! ### latchShadows -/

@[simp] theorem State.latchShadows_cfg : (s.latchShadows).cfg = s.cfg := rfl
@[simp] theorem State.latchShadows_cmd : (s.latchShadows).cmd = s.cmd := rfl
@[simp] theorem State.latchShadows_pid : (s.latchShadows).pid = s.pid := rfl
@[simp] theorem State.latchShadows_pvalid : (s.latchShadows).pvalid = s.pvalid := rfl
@[simp] theorem State.latchShadows_addr : (s.latchShadows).addr = s.addr := rfl
@[simp] theorem State.latchShadows_width : (s.latchShadows).width = s.width := rfl
@[simp] theorem State.latchShadows_height : (s.latchShadows).height = s.height := rfl
@[simp] theorem State.latchShadows_acc : (s.latchShadows).acc = s.acc := rfl
@[simp] theorem State.latchShadows_cmdb : (s.latchShadows).cmdb = s.cmdb := rfl
@[simp] theorem State.latchShadows_plen : (s.latchShadows).plen = s.plen := rfl
@[simp] theorem State.latchShadows_pbuf : (s.latchShadows).pbuf = s.pbuf := rfl
@[simp] theorem State.latchShadows_fstate : (s.latchShadows).fstate = s.fstate := rfl
@[simp] theorem State.latchShadows_sst : (s.latchShadows).sst = s.sst := rfl
@[simp] theorem State.latchShadows_phase : (s.latchShadows).phase = s.phase := rfl
@[simp] theorem State.latchShadows_cchunk : (s.latchShadows).cchunk = s.cchunk := rfl
@[simp] theorem State.latchShadows_ccol : (s.latchShadows).ccol = s.ccol := rfl
@[simp] theorem State.latchShadows_sPid : (s.latchShadows).sPid = s.pid := rfl
@[simp] theorem State.latchShadows_sAddr : (s.latchShadows).sAddr = s.addr := rfl
@[simp] theorem State.latchShadows_sW : (s.latchShadows).sW = s.width := rfl
@[simp] theorem State.latchShadows_sH : (s.latchShadows).sH = s.height := rfl
@[simp] theorem State.latchShadows_pix : (s.latchShadows).pix = s.pix := rfl
@[simp] theorem State.latchShadows_rspStatus : (s.latchShadows).rspStatus = s.rspStatus := rfl
@[simp] theorem State.latchShadows_rspData : (s.latchShadows).rspData = s.rspData := rfl
@[simp] theorem State.latchShadows_tx : (s.latchShadows).tx = s.tx := rfl

/-! ### setCmd -/

@[simp] theorem State.setCmd_cfg (ws : List Word) : (s.setCmd ws).cfg = s.cfg := rfl
@[simp] theorem State.setCmd_cmd (ws : List Word) : (s.setCmd ws).cmd = ws := rfl
@[simp] theorem State.setCmd_pid (ws : List Word) : (s.setCmd ws).pid = s.pid := rfl
@[simp] theorem State.setCmd_pvalid (ws : List Word) : (s.setCmd ws).pvalid = s.pvalid := rfl
@[simp] theorem State.setCmd_addr (ws : List Word) : (s.setCmd ws).addr = s.addr := rfl
@[simp] theorem State.setCmd_width (ws : List Word) : (s.setCmd ws).width = s.width := rfl
@[simp] theorem State.setCmd_height (ws : List Word) : (s.setCmd ws).height = s.height := rfl
@[simp] theorem State.setCmd_acc (ws : List Word) : (s.setCmd ws).acc = s.acc := rfl
@[simp] theorem State.setCmd_cmdb (ws : List Word) : (s.setCmd ws).cmdb = s.cmdb := rfl
@[simp] theorem State.setCmd_plen (ws : List Word) : (s.setCmd ws).plen = s.plen := rfl
@[simp] theorem State.setCmd_pbuf (ws : List Word) : (s.setCmd ws).pbuf = s.pbuf := rfl
@[simp] theorem State.setCmd_fstate (ws : List Word) : (s.setCmd ws).fstate = s.fstate := rfl
@[simp] theorem State.setCmd_sst (ws : List Word) : (s.setCmd ws).sst = s.sst := rfl
@[simp] theorem State.setCmd_phase (ws : List Word) : (s.setCmd ws).phase = s.phase := rfl
@[simp] theorem State.setCmd_cchunk (ws : List Word) : (s.setCmd ws).cchunk = s.cchunk := rfl
@[simp] theorem State.setCmd_ccol (ws : List Word) : (s.setCmd ws).ccol = s.ccol := rfl
@[simp] theorem State.setCmd_sPid (ws : List Word) : (s.setCmd ws).sPid = s.sPid := rfl
@[simp] theorem State.setCmd_sAddr (ws : List Word) : (s.setCmd ws).sAddr = s.sAddr := rfl
@[simp] theorem State.setCmd_sW (ws : List Word) : (s.setCmd ws).sW = s.sW := rfl
@[simp] theorem State.setCmd_sH (ws : List Word) : (s.setCmd ws).sH = s.sH := rfl
@[simp] theorem State.setCmd_pix (ws : List Word) : (s.setCmd ws).pix = s.pix := rfl
@[simp] theorem State.setCmd_rspStatus (ws : List Word) : (s.setCmd ws).rspStatus = s.rspStatus := rfl
@[simp] theorem State.setCmd_rspData (ws : List Word) : (s.setCmd ws).rspData = s.rspData := rfl
@[simp] theorem State.setCmd_tx (ws : List Word) : (s.setCmd ws).tx = s.tx := rfl

end Sys2Proof.Machine
end

