-- ==== Sys2Proof/Laws/Ops.lean ====
section
/-! SUPPORT. What the shared operations of Machine/Ops.lean do, said once: the fields of the composite updates, the bytes a
RawFrame or an append leaves in PBUF, and the two ways a command ends. -/

namespace Sys2Proof.Machine

variable (s : State)

/-! ### loadRaw -/

@[simp] theorem State.loadRaw_cfg (cmd : Byte) (pl : List Byte) : (s.loadRaw cmd pl).cfg = s.cfg := rfl
@[simp] theorem State.loadRaw_cmd (cmd : Byte) (pl : List Byte) : (s.loadRaw cmd pl).cmd = s.cmd := rfl
@[simp] theorem State.loadRaw_pid (cmd : Byte) (pl : List Byte) : (s.loadRaw cmd pl).pid = s.pid := rfl
@[simp] theorem State.loadRaw_pvalid (cmd : Byte) (pl : List Byte) : (s.loadRaw cmd pl).pvalid = s.pvalid := rfl
@[simp] theorem State.loadRaw_addr (cmd : Byte) (pl : List Byte) : (s.loadRaw cmd pl).addr = s.addr := rfl
@[simp] theorem State.loadRaw_width (cmd : Byte) (pl : List Byte) : (s.loadRaw cmd pl).width = s.width := rfl
@[simp] theorem State.loadRaw_height (cmd : Byte) (pl : List Byte) : (s.loadRaw cmd pl).height = s.height := rfl
@[simp] theorem State.loadRaw_acc (cmd : Byte) (pl : List Byte) : (s.loadRaw cmd pl).acc = s.acc := rfl
@[simp] theorem State.loadRaw_cmdb (cmd : Byte) (pl : List Byte) : (s.loadRaw cmd pl).cmdb = cmd := rfl
@[simp] theorem State.loadRaw_plen (cmd : Byte) (pl : List Byte) : (s.loadRaw cmd pl).plen = BitVec.ofNat 9 pl.length := rfl
@[simp] theorem State.loadRaw_pbuf (cmd : Byte) (pl : List Byte) : (s.loadRaw cmd pl).pbuf = s.pbuf.writeList 0 pl := rfl
@[simp] theorem State.loadRaw_fstate (cmd : Byte) (pl : List Byte) : (s.loadRaw cmd pl).fstate = s.fstate := rfl
@[simp] theorem State.loadRaw_sst (cmd : Byte) (pl : List Byte) : (s.loadRaw cmd pl).sst = s.sst := rfl
@[simp] theorem State.loadRaw_phase (cmd : Byte) (pl : List Byte) : (s.loadRaw cmd pl).phase = s.phase := rfl
@[simp] theorem State.loadRaw_cchunk (cmd : Byte) (pl : List Byte) : (s.loadRaw cmd pl).cchunk = s.cchunk := rfl
@[simp] theorem State.loadRaw_ccol (cmd : Byte) (pl : List Byte) : (s.loadRaw cmd pl).ccol = s.ccol := rfl
@[simp] theorem State.loadRaw_sPid (cmd : Byte) (pl : List Byte) : (s.loadRaw cmd pl).sPid = s.sPid := rfl
@[simp] theorem State.loadRaw_sAddr (cmd : Byte) (pl : List Byte) : (s.loadRaw cmd pl).sAddr = s.sAddr := rfl
@[simp] theorem State.loadRaw_sW (cmd : Byte) (pl : List Byte) : (s.loadRaw cmd pl).sW = s.sW := rfl
@[simp] theorem State.loadRaw_sH (cmd : Byte) (pl : List Byte) : (s.loadRaw cmd pl).sH = s.sH := rfl
@[simp] theorem State.loadRaw_pix (cmd : Byte) (pl : List Byte) : (s.loadRaw cmd pl).pix = s.pix := rfl
@[simp] theorem State.loadRaw_rspStatus (cmd : Byte) (pl : List Byte) : (s.loadRaw cmd pl).rspStatus = s.rspStatus := rfl
@[simp] theorem State.loadRaw_rspData (cmd : Byte) (pl : List Byte) : (s.loadRaw cmd pl).rspData = s.rspData := rfl
@[simp] theorem State.loadRaw_tx (cmd : Byte) (pl : List Byte) : (s.loadRaw cmd pl).tx = s.tx := rfl

/-! ### appendPayload -/

@[simp] theorem State.appendPayload_cfg (bytes : List Byte) : (s.appendPayload bytes).cfg = s.cfg := rfl
@[simp] theorem State.appendPayload_cmd (bytes : List Byte) : (s.appendPayload bytes).cmd = s.cmd := rfl
@[simp] theorem State.appendPayload_pid (bytes : List Byte) : (s.appendPayload bytes).pid = s.pid := rfl
@[simp] theorem State.appendPayload_pvalid (bytes : List Byte) : (s.appendPayload bytes).pvalid = s.pvalid := rfl
@[simp] theorem State.appendPayload_addr (bytes : List Byte) : (s.appendPayload bytes).addr = s.addr := rfl
@[simp] theorem State.appendPayload_width (bytes : List Byte) : (s.appendPayload bytes).width = s.width := rfl
@[simp] theorem State.appendPayload_height (bytes : List Byte) : (s.appendPayload bytes).height = s.height := rfl
@[simp] theorem State.appendPayload_acc (bytes : List Byte) : (s.appendPayload bytes).acc = s.acc := rfl
@[simp] theorem State.appendPayload_cmdb (bytes : List Byte) : (s.appendPayload bytes).cmdb = s.cmdb := rfl
@[simp] theorem State.appendPayload_plen (bytes : List Byte) : (s.appendPayload bytes).plen = BitVec.ofNat 9 (s.plen.toNat + bytes.length) := rfl
@[simp] theorem State.appendPayload_pbuf (bytes : List Byte) : (s.appendPayload bytes).pbuf = s.pbuf.writeList s.plen.toNat bytes := rfl
@[simp] theorem State.appendPayload_fstate (bytes : List Byte) : (s.appendPayload bytes).fstate = s.fstate := rfl
@[simp] theorem State.appendPayload_sst (bytes : List Byte) : (s.appendPayload bytes).sst = s.sst := rfl
@[simp] theorem State.appendPayload_phase (bytes : List Byte) : (s.appendPayload bytes).phase = s.phase := rfl
@[simp] theorem State.appendPayload_cchunk (bytes : List Byte) : (s.appendPayload bytes).cchunk = s.cchunk := rfl
@[simp] theorem State.appendPayload_ccol (bytes : List Byte) : (s.appendPayload bytes).ccol = s.ccol := rfl
@[simp] theorem State.appendPayload_sPid (bytes : List Byte) : (s.appendPayload bytes).sPid = s.sPid := rfl
@[simp] theorem State.appendPayload_sAddr (bytes : List Byte) : (s.appendPayload bytes).sAddr = s.sAddr := rfl
@[simp] theorem State.appendPayload_sW (bytes : List Byte) : (s.appendPayload bytes).sW = s.sW := rfl
@[simp] theorem State.appendPayload_sH (bytes : List Byte) : (s.appendPayload bytes).sH = s.sH := rfl
@[simp] theorem State.appendPayload_pix (bytes : List Byte) : (s.appendPayload bytes).pix = s.pix := rfl
@[simp] theorem State.appendPayload_rspStatus (bytes : List Byte) : (s.appendPayload bytes).rspStatus = s.rspStatus := rfl
@[simp] theorem State.appendPayload_rspData (bytes : List Byte) : (s.appendPayload bytes).rspData = s.rspData := rfl
@[simp] theorem State.appendPayload_tx (bytes : List Byte) : (s.appendPayload bytes).tx = s.tx := rfl

/-! ### softReset -/

@[simp] theorem State.softReset_cfg : (s.softReset).cfg = s.cfg := rfl
@[simp] theorem State.softReset_cmd : (s.softReset).cmd = s.cmd := rfl
@[simp] theorem State.softReset_pid : (s.softReset).pid = State.reset.pid := rfl
@[simp] theorem State.softReset_pvalid : (s.softReset).pvalid = State.reset.pvalid := rfl
@[simp] theorem State.softReset_addr : (s.softReset).addr = State.reset.addr := rfl
@[simp] theorem State.softReset_width : (s.softReset).width = State.reset.width := rfl
@[simp] theorem State.softReset_height : (s.softReset).height = State.reset.height := rfl
@[simp] theorem State.softReset_acc : (s.softReset).acc = State.reset.acc := rfl
@[simp] theorem State.softReset_cmdb : (s.softReset).cmdb = State.reset.cmdb := rfl
@[simp] theorem State.softReset_plen : (s.softReset).plen = State.reset.plen := rfl
@[simp] theorem State.softReset_pbuf : (s.softReset).pbuf = State.reset.pbuf := rfl
@[simp] theorem State.softReset_fstate : (s.softReset).fstate = State.reset.fstate := rfl
@[simp] theorem State.softReset_sst : (s.softReset).sst = State.reset.sst := rfl
@[simp] theorem State.softReset_phase : (s.softReset).phase = State.reset.phase := rfl
@[simp] theorem State.softReset_cchunk : (s.softReset).cchunk = State.reset.cchunk := rfl
@[simp] theorem State.softReset_ccol : (s.softReset).ccol = State.reset.ccol := rfl
@[simp] theorem State.softReset_sPid : (s.softReset).sPid = State.reset.sPid := rfl
@[simp] theorem State.softReset_sAddr : (s.softReset).sAddr = State.reset.sAddr := rfl
@[simp] theorem State.softReset_sW : (s.softReset).sW = State.reset.sW := rfl
@[simp] theorem State.softReset_sH : (s.softReset).sH = State.reset.sH := rfl
@[simp] theorem State.softReset_pix : (s.softReset).pix = State.reset.pix := rfl
@[simp] theorem State.softReset_rspStatus : (s.softReset).rspStatus = State.reset.rspStatus := rfl
@[simp] theorem State.softReset_rspData : (s.softReset).rspData = State.reset.rspData := rfl
@[simp] theorem State.softReset_tx : (s.softReset).tx = s.tx := rfl

/-! ### The bytes of PBUF and the cells of PIX -/

/-- Every byte of PBUF after a RawFrame is loaded. -/
theorem State.pbufByte_loadRaw (cmd : Byte) (pl : List Byte) (a : Nat) :
    (s.loadRaw cmd pl).pbufByte a = if a < pl.length then pl.getD a 0 else s.pbufByte a := by
  simp [State.pbufByte, Memory.read_writeList]

/-- Every byte of PBUF after an append. -/
theorem State.pbufByte_appendPayload (bytes : List Byte) (a : Nat) :
    (s.appendPayload bytes).pbufByte a =
      if s.plen.toNat ≤ a ∧ a < s.plen.toNat + bytes.length then bytes.getD (a - s.plen.toNat) 0
      else s.pbufByte a := by
  simp [State.pbufByte, Memory.read_writeList]

/-- Every byte of PBUF after one byte is stored. -/
theorem State.pbufByte_storePayload_one (i : Nat) (b : Byte) (a : Nat) :
    (s.storePayload i [b]).pbufByte a = if a = i then b else s.pbufByte a := by
  simp [State.pbufByte, Memory.writeList, Memory.read_write]

/-- Every cell of PIX after one is stored. -/
theorem State.pixCell_storePixel (i : Nat) (v : Pixel) (a : Nat) :
    (s.storePixel i v).pixCell a = if a = i then v else s.pixCell a := by
  simp [State.pixCell, Memory.read_write]

/-- A RawFrame that PBUF holds is read back as it was loaded. -/
theorem State.payload_loadRaw (cmd : Byte) (pl : List Byte) (h : pl.length ≤ pMax) :
    (s.loadRaw cmd pl).payload = pl := by
  have hn : (BitVec.ofNat 9 pl.length).toNat = pl.length := by
    rw [BitVec.toNat_ofNat, Nat.mod_eq_of_lt (by unfold pMax at h; omega)]
  refine List.ext_getElem (by simp [State.payload, hn]) fun i h1 h2 => ?_
  simp [State.payload, State.pbufByte_loadRaw, h2]

/-! ### How a command ends -/

/-- A command that completes answers one state. -/
theorem complete_eq_next {d : Datum} {s t : State} : complete d s = .next t ↔ t = s.respond statusOk d := by
  simp [complete, eq_comm]

/-- A command that raises an error answers one state: its own, but for the response. -/
theorem raise_eq_next {e : CodecError} {s t : State} : raise e s = .next t ↔ t = s.respond e.code 0 := by
  simp [raise, eq_comm]

/-- No error has the code of success. -/
theorem CodecError.code_ne_ok (e : CodecError) : e.code ≠ statusOk := by
  cases e <;> decide

/-- The codes of the error kinds are different. -/
theorem CodecError.code_injective {e f : CodecError} (h : e.code = f.code) : e = f := by
  cases e <;> cases f <;> first | rfl | exact absurd h (by decide)

/-! ### The CMD port -/

theorem fetch_nil {s : State} (h : s.cmd = []) : fetch s = none := by
  simp [fetch, h]

theorem fetch_cons {s : State} {w : Word} {rest : List Word} (h : s.cmd = w :: rest) :
    fetch s = some (w, s.setCmd rest) := by
  simp [fetch, h]

end Sys2Proof.Machine
end

