-- ==== Sys2Proof/Laws/Session.lean ====
section
/-! SUPPORT. What the framing and session operations do, said once: sending a frame, starting a session, moving the cursor,
one SNEXT and a whole run of them. -/

namespace Sys2Proof.Machine

variable (s : State)

/-! ### sendFrame -/

@[simp] theorem State.sendFrame_cfg (cmd : Byte) (pl : List Byte) : (s.sendFrame cmd pl).cfg = s.cfg := rfl
@[simp] theorem State.sendFrame_cmd (cmd : Byte) (pl : List Byte) : (s.sendFrame cmd pl).cmd = s.cmd := rfl
@[simp] theorem State.sendFrame_pid (cmd : Byte) (pl : List Byte) : (s.sendFrame cmd pl).pid = s.pid := rfl
@[simp] theorem State.sendFrame_pvalid (cmd : Byte) (pl : List Byte) : (s.sendFrame cmd pl).pvalid = s.pvalid := rfl
@[simp] theorem State.sendFrame_addr (cmd : Byte) (pl : List Byte) : (s.sendFrame cmd pl).addr = s.addr := rfl
@[simp] theorem State.sendFrame_width (cmd : Byte) (pl : List Byte) : (s.sendFrame cmd pl).width = s.width := rfl
@[simp] theorem State.sendFrame_height (cmd : Byte) (pl : List Byte) : (s.sendFrame cmd pl).height = s.height := rfl
@[simp] theorem State.sendFrame_acc (cmd : Byte) (pl : List Byte) : (s.sendFrame cmd pl).acc = csum ([cmd] ++ pl) := rfl
@[simp] theorem State.sendFrame_cmdb (cmd : Byte) (pl : List Byte) : (s.sendFrame cmd pl).cmdb = s.cmdb := rfl
@[simp] theorem State.sendFrame_plen (cmd : Byte) (pl : List Byte) : (s.sendFrame cmd pl).plen = s.plen := rfl
@[simp] theorem State.sendFrame_pbuf (cmd : Byte) (pl : List Byte) : (s.sendFrame cmd pl).pbuf = s.pbuf := rfl
@[simp] theorem State.sendFrame_fstate (cmd : Byte) (pl : List Byte) : (s.sendFrame cmd pl).fstate = s.fstate := rfl
@[simp] theorem State.sendFrame_sst (cmd : Byte) (pl : List Byte) : (s.sendFrame cmd pl).sst = s.sst := rfl
@[simp] theorem State.sendFrame_phase (cmd : Byte) (pl : List Byte) : (s.sendFrame cmd pl).phase = s.phase := rfl
@[simp] theorem State.sendFrame_cchunk (cmd : Byte) (pl : List Byte) : (s.sendFrame cmd pl).cchunk = s.cchunk := rfl
@[simp] theorem State.sendFrame_ccol (cmd : Byte) (pl : List Byte) : (s.sendFrame cmd pl).ccol = s.ccol := rfl
@[simp] theorem State.sendFrame_sPid (cmd : Byte) (pl : List Byte) : (s.sendFrame cmd pl).sPid = s.sPid := rfl
@[simp] theorem State.sendFrame_sAddr (cmd : Byte) (pl : List Byte) : (s.sendFrame cmd pl).sAddr = s.sAddr := rfl
@[simp] theorem State.sendFrame_sW (cmd : Byte) (pl : List Byte) : (s.sendFrame cmd pl).sW = s.sW := rfl
@[simp] theorem State.sendFrame_sH (cmd : Byte) (pl : List Byte) : (s.sendFrame cmd pl).sH = s.sH := rfl
@[simp] theorem State.sendFrame_pix (cmd : Byte) (pl : List Byte) : (s.sendFrame cmd pl).pix = s.pix := rfl
@[simp] theorem State.sendFrame_rspStatus (cmd : Byte) (pl : List Byte) : (s.sendFrame cmd pl).rspStatus = s.rspStatus := rfl
@[simp] theorem State.sendFrame_rspData (cmd : Byte) (pl : List Byte) : (s.sendFrame cmd pl).rspData = s.rspData := rfl
@[simp] theorem State.sendFrame_tx (cmd : Byte) (pl : List Byte) : (s.sendFrame cmd pl).tx = s.tx ++ wire cmd pl := rfl

/-! ### startSession -/

@[simp] theorem State.startSession_cfg : (s.startSession).cfg = s.cfg := rfl
@[simp] theorem State.startSession_cmd : (s.startSession).cmd = s.cmd := rfl
@[simp] theorem State.startSession_pid : (s.startSession).pid = s.pid := rfl
@[simp] theorem State.startSession_pvalid : (s.startSession).pvalid = s.pvalid := rfl
@[simp] theorem State.startSession_addr : (s.startSession).addr = s.addr := rfl
@[simp] theorem State.startSession_width : (s.startSession).width = s.width := rfl
@[simp] theorem State.startSession_height : (s.startSession).height = s.height := rfl
@[simp] theorem State.startSession_acc : (s.startSession).acc = s.acc := rfl
@[simp] theorem State.startSession_cmdb : (s.startSession).cmdb = s.cmdb := rfl
@[simp] theorem State.startSession_plen : (s.startSession).plen = s.plen := rfl
@[simp] theorem State.startSession_pbuf : (s.startSession).pbuf = s.pbuf := rfl
@[simp] theorem State.startSession_fstate : (s.startSession).fstate = s.fstate := rfl
@[simp] theorem State.startSession_sst : (s.startSession).sst = .active := rfl
@[simp] theorem State.startSession_phase : (s.startSession).phase = .init := rfl
@[simp] theorem State.startSession_cchunk : (s.startSession).cchunk = 0 := rfl
@[simp] theorem State.startSession_ccol : (s.startSession).ccol = 0 := rfl
@[simp] theorem State.startSession_sPid : (s.startSession).sPid = s.pid := rfl
@[simp] theorem State.startSession_sAddr : (s.startSession).sAddr = s.addr := rfl
@[simp] theorem State.startSession_sW : (s.startSession).sW = s.width := rfl
@[simp] theorem State.startSession_sH : (s.startSession).sH = s.height := rfl
@[simp] theorem State.startSession_pix : (s.startSession).pix = s.pix := rfl
@[simp] theorem State.startSession_rspStatus : (s.startSession).rspStatus = s.rspStatus := rfl
@[simp] theorem State.startSession_rspData : (s.startSession).rspData = s.rspData := rfl
@[simp] theorem State.startSession_tx : (s.startSession).tx = s.tx := rfl

/-! ### afterInitFrame -/

@[simp] theorem State.afterInitFrame_cfg : (s.afterInitFrame).cfg = s.cfg := rfl
@[simp] theorem State.afterInitFrame_cmd : (s.afterInitFrame).cmd = s.cmd := rfl
@[simp] theorem State.afterInitFrame_pid : (s.afterInitFrame).pid = s.pid := rfl
@[simp] theorem State.afterInitFrame_pvalid : (s.afterInitFrame).pvalid = s.pvalid := rfl
@[simp] theorem State.afterInitFrame_addr : (s.afterInitFrame).addr = s.addr := rfl
@[simp] theorem State.afterInitFrame_width : (s.afterInitFrame).width = s.width := rfl
@[simp] theorem State.afterInitFrame_height : (s.afterInitFrame).height = s.height := rfl
@[simp] theorem State.afterInitFrame_acc : (s.afterInitFrame).acc = s.acc := rfl
@[simp] theorem State.afterInitFrame_cmdb : (s.afterInitFrame).cmdb = s.cmdb := rfl
@[simp] theorem State.afterInitFrame_plen : (s.afterInitFrame).plen = s.plen := rfl
@[simp] theorem State.afterInitFrame_pbuf : (s.afterInitFrame).pbuf = s.pbuf := rfl
@[simp] theorem State.afterInitFrame_fstate : (s.afterInitFrame).fstate = s.fstate := rfl
@[simp] theorem State.afterInitFrame_sst : (s.afterInitFrame).sst = s.sst := rfl
@[simp] theorem State.afterInitFrame_phase : (s.afterInitFrame).phase = .data := rfl
@[simp] theorem State.afterInitFrame_cchunk : (s.afterInitFrame).cchunk = BitVec.ofNat 8 s.cchunk.toNat := rfl
@[simp] theorem State.afterInitFrame_ccol : (s.afterInitFrame).ccol = BitVec.ofNat 8 s.ccol.toNat := rfl
@[simp] theorem State.afterInitFrame_sPid : (s.afterInitFrame).sPid = s.sPid := rfl
@[simp] theorem State.afterInitFrame_sAddr : (s.afterInitFrame).sAddr = s.sAddr := rfl
@[simp] theorem State.afterInitFrame_sW : (s.afterInitFrame).sW = s.sW := rfl
@[simp] theorem State.afterInitFrame_sH : (s.afterInitFrame).sH = s.sH := rfl
@[simp] theorem State.afterInitFrame_pix : (s.afterInitFrame).pix = s.pix := rfl
@[simp] theorem State.afterInitFrame_rspStatus : (s.afterInitFrame).rspStatus = s.rspStatus := rfl
@[simp] theorem State.afterInitFrame_rspData : (s.afterInitFrame).rspData = s.rspData := rfl
@[simp] theorem State.afterInitFrame_tx : (s.afterInitFrame).tx = s.tx := rfl

/-! ### The cursor's advance leaves all but the cursor alone -/

@[simp] theorem State.afterDataFrame_cfg : s.afterDataFrame.cfg = s.cfg := by
  unfold State.afterDataFrame; split_ifs <;> rfl
@[simp] theorem State.afterDataFrame_cmd : s.afterDataFrame.cmd = s.cmd := by
  unfold State.afterDataFrame; split_ifs <;> rfl
@[simp] theorem State.afterDataFrame_pid : s.afterDataFrame.pid = s.pid := by
  unfold State.afterDataFrame; split_ifs <;> rfl
@[simp] theorem State.afterDataFrame_pvalid : s.afterDataFrame.pvalid = s.pvalid := by
  unfold State.afterDataFrame; split_ifs <;> rfl
@[simp] theorem State.afterDataFrame_addr : s.afterDataFrame.addr = s.addr := by
  unfold State.afterDataFrame; split_ifs <;> rfl
@[simp] theorem State.afterDataFrame_width : s.afterDataFrame.width = s.width := by
  unfold State.afterDataFrame; split_ifs <;> rfl
@[simp] theorem State.afterDataFrame_height : s.afterDataFrame.height = s.height := by
  unfold State.afterDataFrame; split_ifs <;> rfl
@[simp] theorem State.afterDataFrame_acc : s.afterDataFrame.acc = s.acc := by
  unfold State.afterDataFrame; split_ifs <;> rfl
@[simp] theorem State.afterDataFrame_cmdb : s.afterDataFrame.cmdb = s.cmdb := by
  unfold State.afterDataFrame; split_ifs <;> rfl
@[simp] theorem State.afterDataFrame_plen : s.afterDataFrame.plen = s.plen := by
  unfold State.afterDataFrame; split_ifs <;> rfl
@[simp] theorem State.afterDataFrame_pbuf : s.afterDataFrame.pbuf = s.pbuf := by
  unfold State.afterDataFrame; split_ifs <;> rfl
@[simp] theorem State.afterDataFrame_fstate : s.afterDataFrame.fstate = s.fstate := by
  unfold State.afterDataFrame; split_ifs <;> rfl
@[simp] theorem State.afterDataFrame_sPid : s.afterDataFrame.sPid = s.sPid := by
  unfold State.afterDataFrame; split_ifs <;> rfl
@[simp] theorem State.afterDataFrame_sAddr : s.afterDataFrame.sAddr = s.sAddr := by
  unfold State.afterDataFrame; split_ifs <;> rfl
@[simp] theorem State.afterDataFrame_sW : s.afterDataFrame.sW = s.sW := by
  unfold State.afterDataFrame; split_ifs <;> rfl
@[simp] theorem State.afterDataFrame_sH : s.afterDataFrame.sH = s.sH := by
  unfold State.afterDataFrame; split_ifs <;> rfl
@[simp] theorem State.afterDataFrame_pix : s.afterDataFrame.pix = s.pix := by
  unfold State.afterDataFrame; split_ifs <;> rfl
@[simp] theorem State.afterDataFrame_rspStatus : s.afterDataFrame.rspStatus = s.rspStatus := by
  unfold State.afterDataFrame; split_ifs <;> rfl
@[simp] theorem State.afterDataFrame_rspData : s.afterDataFrame.rspData = s.rspData := by
  unfold State.afterDataFrame; split_ifs <;> rfl
@[simp] theorem State.afterDataFrame_tx : s.afterDataFrame.tx = s.tx := by
  unfold State.afterDataFrame; split_ifs <;> rfl

@[simp] theorem State.advance_cfg : s.advance.cfg = s.cfg := by
  unfold State.advance; split <;> simp
@[simp] theorem State.advance_cmd : s.advance.cmd = s.cmd := by
  unfold State.advance; split <;> simp
@[simp] theorem State.advance_pid : s.advance.pid = s.pid := by
  unfold State.advance; split <;> simp
@[simp] theorem State.advance_pvalid : s.advance.pvalid = s.pvalid := by
  unfold State.advance; split <;> simp
@[simp] theorem State.advance_addr : s.advance.addr = s.addr := by
  unfold State.advance; split <;> simp
@[simp] theorem State.advance_width : s.advance.width = s.width := by
  unfold State.advance; split <;> simp
@[simp] theorem State.advance_height : s.advance.height = s.height := by
  unfold State.advance; split <;> simp
@[simp] theorem State.advance_acc : s.advance.acc = s.acc := by
  unfold State.advance; split <;> simp
@[simp] theorem State.advance_cmdb : s.advance.cmdb = s.cmdb := by
  unfold State.advance; split <;> simp
@[simp] theorem State.advance_plen : s.advance.plen = s.plen := by
  unfold State.advance; split <;> simp
@[simp] theorem State.advance_pbuf : s.advance.pbuf = s.pbuf := by
  unfold State.advance; split <;> simp
@[simp] theorem State.advance_fstate : s.advance.fstate = s.fstate := by
  unfold State.advance; split <;> simp
@[simp] theorem State.advance_sPid : s.advance.sPid = s.sPid := by
  unfold State.advance; split <;> simp
@[simp] theorem State.advance_sAddr : s.advance.sAddr = s.sAddr := by
  unfold State.advance; split <;> simp
@[simp] theorem State.advance_sW : s.advance.sW = s.sW := by
  unfold State.advance; split <;> simp
@[simp] theorem State.advance_sH : s.advance.sH = s.sH := by
  unfold State.advance; split <;> simp
@[simp] theorem State.advance_pix : s.advance.pix = s.pix := by
  unfold State.advance; split <;> simp
@[simp] theorem State.advance_rspStatus : s.advance.rspStatus = s.rspStatus := by
  unfold State.advance; split <;> simp
@[simp] theorem State.advance_rspData : s.advance.rspData = s.rspData := by
  unfold State.advance; split <;> simp
@[simp] theorem State.advance_tx : s.advance.tx = s.tx := by
  unfold State.advance; split <;> simp

/-- All that the advance past a data frame can do (43_chunk_planner.md R184). -/
theorem State.afterDataFrame_cases :
    (s.ccol.toNat + 1 < s.sW.toNat
        ∧ s.afterDataFrame = s.setCursor s.sst s.phase s.cchunk.toNat (s.ccol.toNat + 1))
      ∨ (s.sW.toNat ≤ s.ccol.toNat + 1 ∧ s.cchunk.toNat + 1 = chunksOf s.cfg s.sessionProfile s.sH.toNat
        ∧ s.afterDataFrame = s.setCursor .done s.phase (s.cchunk.toNat + 1) 0)
      ∨ (s.sW.toNat ≤ s.ccol.toNat + 1 ∧ s.cchunk.toNat + 1 ≠ chunksOf s.cfg s.sessionProfile s.sH.toNat
        ∧ s.cfg.initPerChunk.at s.sessionProfile = true
        ∧ s.afterDataFrame = s.setCursor s.sst .init (s.cchunk.toNat + 1) 0)
      ∨ (s.sW.toNat ≤ s.ccol.toNat + 1 ∧ s.cchunk.toNat + 1 ≠ chunksOf s.cfg s.sessionProfile s.sH.toNat
        ∧ s.cfg.initPerChunk.at s.sessionProfile = false
        ∧ s.afterDataFrame = s.setCursor s.sst s.phase (s.cchunk.toNat + 1) 0) := by
  unfold State.afterDataFrame
  by_cases h1 : s.ccol.toNat + 1 < s.sW.toNat
  · exact .inl ⟨h1, if_pos h1⟩
  rw [if_neg h1]
  have h1 := Nat.le_of_not_lt h1
  by_cases h2 : s.cchunk.toNat + 1 = chunksOf s.cfg s.sessionProfile s.sH.toNat
  · exact .inr (.inl ⟨h1, h2, if_pos h2⟩)
  rw [if_neg h2]
  by_cases h3 : s.cfg.initPerChunk.at s.sessionProfile = true
  · exact .inr (.inr (.inl ⟨h1, h2, h3, if_pos h3⟩))
  · exact .inr (.inr (.inr ⟨h1, h2, by simpa using h3, if_neg h3⟩))

/-! ### sendNext -/

@[simp] theorem State.sendNext_cfg : s.sendNext.cfg = s.cfg := by simp [State.sendNext]
@[simp] theorem State.sendNext_cmd : s.sendNext.cmd = s.cmd := by simp [State.sendNext]
@[simp] theorem State.sendNext_pid : s.sendNext.pid = s.pid := by simp [State.sendNext]
@[simp] theorem State.sendNext_pvalid : s.sendNext.pvalid = s.pvalid := by simp [State.sendNext]
@[simp] theorem State.sendNext_addr : s.sendNext.addr = s.addr := by simp [State.sendNext]
@[simp] theorem State.sendNext_width : s.sendNext.width = s.width := by simp [State.sendNext]
@[simp] theorem State.sendNext_height : s.sendNext.height = s.height := by simp [State.sendNext]
@[simp] theorem State.sendNext_acc : s.sendNext.acc = csum ([nextCommandByte s] ++ nextPayload s) := by simp [State.sendNext]
@[simp] theorem State.sendNext_cmdb : s.sendNext.cmdb = nextCommandByte s := by simp [State.sendNext]
@[simp] theorem State.sendNext_plen : s.sendNext.plen = BitVec.ofNat 9 (nextPayload s).length := by simp [State.sendNext]
@[simp] theorem State.sendNext_pbuf : s.sendNext.pbuf = s.pbuf.writeList 0 (nextPayload s) := by simp [State.sendNext]
@[simp] theorem State.sendNext_fstate : s.sendNext.fstate = s.fstate := by simp [State.sendNext]
@[simp] theorem State.sendNext_sPid : s.sendNext.sPid = s.sPid := by simp [State.sendNext]
@[simp] theorem State.sendNext_sAddr : s.sendNext.sAddr = s.sAddr := by simp [State.sendNext]
@[simp] theorem State.sendNext_sW : s.sendNext.sW = s.sW := by simp [State.sendNext]
@[simp] theorem State.sendNext_sH : s.sendNext.sH = s.sH := by simp [State.sendNext]
@[simp] theorem State.sendNext_pix : s.sendNext.pix = s.pix := by simp [State.sendNext]
@[simp] theorem State.sendNext_rspStatus : s.sendNext.rspStatus = s.rspStatus := by simp [State.sendNext]
@[simp] theorem State.sendNext_rspData : s.sendNext.rspData = s.rspData := by simp [State.sendNext]
@[simp] theorem State.sendNext_tx : s.sendNext.tx = s.tx ++ nextFrame s := by simp [State.sendNext, nextFrame]

/-- The session state and the cursor after SNEXT are those of the advance alone. -/
theorem State.sendNext_cursor :
    s.sendNext.sst = s.advance.sst ∧ s.sendNext.phase = s.advance.phase
      ∧ s.sendNext.cchunk = s.advance.cchunk ∧ s.sendNext.ccol = s.advance.ccol := by
  cases h : s.phase
  · simp [State.sendNext, State.advance, h]
  · simp [State.sendNext, State.advance, State.afterDataFrame, State.sessionProfile, h]
    split_ifs <;> simp

/-- The payload of a session's frame fits PBUF with room to spare (43_chunk_planner.md R185). -/
theorem nextPayload_length_le {s : State} (h : s.cfg.legal = true) : (nextPayload s).length ≤ 16 := by
  unfold nextPayload
  split
  · exact initPayload_length_le h _
  · exact Nat.le_trans (dataPayload_length_le ..) (by decide)

/-! ### runSession -/

theorem runSession_zero : runSession 0 s = (s, 0) := rfl

theorem runSession_inactive (fuel : Nat) (h : s.sst ≠ .active) : runSession fuel s = (s, 0) := by
  cases fuel <;> simp [runSession, h]

theorem runSession_active (fuel : Nat) (h : s.sst = .active) :
    runSession (fuel + 1) s = ((runSession fuel s.sendNext).1, (runSession fuel s.sendNext).2 + 1) := by
  simp [runSession, h]

/-- A property that one SNEXT keeps is kept by a run of them. -/
theorem runSession_keeps {P : State → Prop} (hP : ∀ u : State, u.sst = .active → P u → P u.sendNext) (fuel : Nat)
    (s : State) (h : P s) : P (runSession fuel s).1 := by
  induction fuel generalizing s with
  | zero => exact h
  | succ fuel ih =>
    by_cases ha : s.sst = .active
    · rw [runSession_active s fuel ha]
      exact ih _ (hP s ha h)
    · rw [runSession_inactive s _ ha]
      exact h

/-- A field that SNEXT leaves alone is left alone by a run. -/
theorem runSession_field {α : Type} (f : State → α) (hf : ∀ u : State, f u.sendNext = f u) (fuel : Nat) (s : State) :
    f (runSession fuel s).1 = f s :=
  runSession_keeps (P := fun u => f u = f s) (fun u _ h => (hf u).trans h) fuel s rfl

/-- ENCBMP in terms of the run. -/
theorem execEncbmp_eq {s : State} (h : sessionError s = none) :
    execEncbmp s = complete (BitVec.ofNat 16 (runSession (sessionLength s) s.startSession).2)
      (runSession (sessionLength s) s.startSession).1 := by
  simp [execEncbmp, h]

end Sys2Proof.Machine
end

