-- ==== Sys2Proof/Laws/Exec.lean ====
section
/-! SUPPORT. What a command and a step can end in, said once: every command completes in some state or raises an error in its
own, and a step is an accepted word or nothing. -/

namespace Sys2Proof.Machine

/-- How a command can end: it raises an error and leaves its state, or it completes. -/
def EndsWell (s : State) (r : Result) : Prop :=
  (∃ e, r = raise e s) ∨ ∃ d t, r = complete d t

theorem EndsWell.raise (s : State) (e : CodecError) : EndsWell s (raise e s) :=
  .inl ⟨e, rfl⟩

theorem EndsWell.complete (s : State) (d : Datum) (t : State) : EndsWell s (complete d t) :=
  .inr ⟨d, t, rfl⟩

theorem EndsWell.ite {s : State} {p : Prop} [Decidable p] {a b : Result} (ha : EndsWell s a) (hb : EndsWell s b) :
    EndsWell s (if p then a else b) := by
  split
  · exact ha
  · exact hb

/-- Every command completes or raises an error, in every state. -/
theorem exec_endsWell (i : Instr) (s : State) : EndsWell s (exec i s) := by
  cases i with
  | nop => exact .complete ..
  | wreg reg data =>
    show EndsWell s (execWreg reg data s)
    unfold execWreg
    split
    · exact .raise ..
    · split
      · exact .raise ..
      · exact .complete ..
  | rreg reg =>
    show EndsWell s (execRreg reg s)
    unfold execRreg
    split
    · exact .raise ..
    · exact .complete ..
  | wpix row col v => exact .ite (.complete ..) (.raise ..)
  | rpix row col => exact .ite (.complete ..) (.raise ..)
  | wpb idx byte => exact .complete ..
  | rpb idx => exact .complete ..
  | papp imm => exact .ite (.raise ..) (.complete ..)
  | pclr => exact .complete ..
  | srst => exact .complete ..
  | aenc tag adr =>
    refine .ite (.raise ..) ?_
    split
    · exact .raise ..
    · exact .complete ..
  | asplit imm => exact .complete ..
  | pack2 row0 col ord n => exact .ite (.raise ..) (.ite (.raise ..) (.complete ..))
  | pack1 row0 col ord n => exact .ite (.raise ..) (.ite (.raise ..) (.complete ..))
  | sbegin =>
    show EndsWell s (execSbegin s)
    unfold execSbegin
    cases sessionError s
    · exact .complete ..
    · exact .raise ..
  | snext => exact .ite (.raise ..) (.complete ..)
  | sabort => exact .complete ..
  | encbmp =>
    show EndsWell s (execEncbmp s)
    unfold execEncbmp
    cases sessionError s
    · exact .complete ..
    · exact .raise ..
  | encinit =>
    refine .ite (.raise ..) ?_
    split
    · exact .raise ..
    · exact .complete ..
  | binit =>
    show EndsWell s (execBinit s)
    unfold execBinit
    split
    · exact .raise ..
    · exact .complete ..
  | bdata chunk col =>
    refine .ite (.raise ..) ?_
    split
    · exact .raise ..
    · exact .complete ..
  | csinit => exact .ite (.raise ..) (.complete ..)
  | csacc imm => exact .ite (.raise ..) (.complete ..)
  | csbuf => exact .ite (.raise ..) (.complete ..)
  | fopen => exact .ite (.raise ..) (.complete ..)
  | fput imm => exact .ite (.raise ..) (.complete ..)
  | fclose => exact .ite (.raise ..) (.complete ..)
  | fenc => exact .ite (.raise ..) (.ite (.raise ..) (.complete ..))

/-- What a step can be: nothing when CMD is empty, else the accepted word's effect. -/
theorem step_cases (s : State) :
    (s.cmd = [] ∧ step s = .next s) ∨ ∃ w rest, s.cmd = w :: rest ∧ step s = accept w (s.setCmd rest) := by
  cases h : s.cmd with
  | nil => exact .inl ⟨rfl, by simp [step, fetch_nil h, awaitCommand]⟩
  | cons w rest => exact .inr ⟨w, rest, rfl, by simp [step, fetch_cons h]⟩

end Sys2Proof.Machine
end

