-- ==== Sys2Proof/Laws/Operands.lean ====
section
/-! SUPPORT. Register numbers and operand widths: a narrow value shown in a 16-bit datum, the two nibbles of a command byte,
and the codes of the active profile. -/

namespace Sys2Proof.Machine

/-! ### Narrow values in a datum -/

theorem datum_of_bit (v : BitVec 1) : v.setWidth 16 = (0 : BitVec 15) ++ v := by
  revert v; decide

theorem datum_of_pid (v : BitVec 2) : v.setWidth 16 = (0 : BitVec 14) ++ v := by
  revert v; decide

theorem datum_of_nibble (v : Nibble) : v.setWidth 16 = (0 : BitVec 12) ++ v := by
  revert v; decide

theorem datum_of_byte (v : Byte) : v.setWidth 16 = (0 : BitVec 8) ++ v := by
  revert v; decide

theorem datum_of_nine (v : BitVec 9) : v.setWidth 16 = (0 : BitVec 7) ++ v := by
  revert v; decide

/-- PROFILE's fields at their places (10_state.md R34). -/
theorem profileWord_eq (v : BitVec 1) (p : BitVec 2) :
    profileWord v p = (0 : BitVec 8) ++ v ++ (0 : BitVec 5) ++ p := by
  revert v p; decide

/-! ### Register numbers -/

/-- Numbers 0x0F..0xFF name no register (10_state.md R51). -/
theorem regOf_unassigned {n : BitVec 8} (h : 15 ≤ n.toNat) : regOf n = none := by
  unfold regOf
  rw [List.getElem?_eq_none_iff]
  exact h

/-- All that a register write leaves alone (46_host_access.md R272). -/
theorem writeReg_frame {s t : State} {d : Datum} {r : Reg} (h : writeReg s d r = .ok t) :
    t.cfg = s.cfg ∧ t.cmd = s.cmd ∧ t.tx = s.tx ∧ t.pix = s.pix ∧ t.pbuf = s.pbuf ∧ t.fstate = s.fstate
      ∧ t.sst = s.sst ∧ t.phase = s.phase ∧ t.cchunk = s.cchunk ∧ t.ccol = s.ccol ∧ t.sPid = s.sPid
      ∧ t.sAddr = s.sAddr ∧ t.sW = s.sW ∧ t.sH = s.sH ∧ t.rspStatus = s.rspStatus ∧ t.rspData = s.rspData := by
  cases r <;> simp only [writeReg, checkedWrite] at h <;> (try split at h) <;> simp at h <;> subst h <;> simp

/-! ### Command byte -/

/-- The code is the high nibble and the address the low one (41_address_encoder.md R130). -/
theorem merge_eq_append (k a : Nibble) : merge k a = k ++ a := by
  revert k a; decide

/-- ASPLIT's answer for a byte of two nibbles (41_address_encoder.md R133). -/
theorem splitWord_append (k a : Nibble) : splitWord (k ++ a) = (0 : BitVec 4) ++ k ++ (0 : BitVec 4) ++ a := by
  revert k a; decide

/-! ### The active profile's codes -/

theorem activeCode_of_unset {s : State} (tag : BitVec 8) (h : s.pvalid = 0) : s.activeCode tag = none := by
  simp [State.activeCode, h]

theorem activeCode_of_set {s : State} (tag : BitVec 8) (h : s.pvalid = 1) :
    s.activeCode tag = code s.cfg (profileOf s.pid) tag := by
  have : s.pvalid ≠ 0 := by rw [h]; decide
  rw [State.activeCode, if_neg this]
  rfl

end Sys2Proof.Machine
end

