-- ==== Sys2Proof/Laws/PerInstr.lean ====
section
/-! SUPPORT. Per command: its word stands in its own row of the opcode map (30_encoding.md R103, R104), one lemma for each
constructor. -/

namespace Sys2Proof.Laws.EncodesOwnRow

/-- The row `r` of the opcode map spells the command's word. -/
def InRow (i : Instr) (r : OpcodeRow) : Prop :=
  r ∈ opcodeTable ∧ r.mnemonic = mnemonic i ∧ encode i &&& r.mask = r.pattern

/-- The command's word matches the row of the opcode map that has the command's mnemonic. -/
def Statement (i : Instr) : Prop :=
  i.wellFormed = true → ∃ r, InRow i r

/-- A byte under an all-zeros mask. -/
theorem byte_and_zeros (b : BitVec 8) : b &&& 0x00 = 0 := by
  revert b; decide

theorem pixelByte_masked (v : Pixel) : pixelByte v &&& 0xFE = 0 := by
  revert v; decide

/-- A word of four bytes under a mask of four bytes. -/
theorem masked {a3 a2 a1 a0 p3 p2 p1 p0 m3 m2 m1 m0 : BitVec 8} (h3 : a3 &&& m3 = p3) (h2 : a2 &&& m2 = p2)
    (h1 : a1 &&& m1 = p1) (h0 : a0 &&& m0 = p0) :
    wordOfBytes a3 a2 a1 a0 &&& wordOfBytes m3 m2 m1 m0 = wordOfBytes p3 p2 p1 p0 := by
  rw [wordOfBytes_and, h3, h2, h1, h0]

theorem nop : Statement .nop :=
  fun _ => ⟨⟨"NOP", 0x00000000, 0xFFFFFFFF⟩, by decide, rfl, by decide⟩

theorem wreg (reg : BitVec 8) (data : Datum) : Statement (.wreg reg data) :=
  fun _ => ⟨⟨"WREG", 0x01000000, 0xFF000000⟩, by decide, rfl, by
    refine (congrArg (· &&& (0xFF000000 : Word)) (regWord_eq_wordOfBytes _ _ _)).trans ?_
    show wordOfBytes 0x01 reg (data.extractLsb' 8 8) (data.extractLsb' 0 8) &&& wordOfBytes 0xFF 0x00 0x00 0x00 = wordOfBytes 0x01 0x00 0x00 0x00
    exact masked rfl (byte_and_zeros _) (byte_and_zeros _) (byte_and_zeros _)⟩

theorem rreg (reg : BitVec 8) : Statement (.rreg reg) :=
  fun _ => ⟨⟨"RREG", 0x02000000, 0xFF00FFFF⟩, by decide, rfl, by
    show wordOfBytes 0x02 reg 0 0 &&& wordOfBytes 0xFF 0x00 0xFF 0xFF = wordOfBytes 0x02 0x00 0x00 0x00
    exact masked rfl (byte_and_zeros _) rfl rfl⟩

theorem wpix (row : BitVec 8) (col : BitVec 8) (v : Pixel) : Statement (.wpix row col v) :=
  fun _ => ⟨⟨"WPIX", 0x03000000, 0xFF0000FE⟩, by decide, rfl, by
    show wordOfBytes 0x03 row col (pixelByte v) &&& wordOfBytes 0xFF 0x00 0x00 0xFE = wordOfBytes 0x03 0x00 0x00 0x00
    exact masked rfl (byte_and_zeros _) (byte_and_zeros _) (pixelByte_masked v)⟩

theorem rpix (row : BitVec 8) (col : BitVec 8) : Statement (.rpix row col) :=
  fun _ => ⟨⟨"RPIX", 0x04000000, 0xFF0000FF⟩, by decide, rfl, by
    show wordOfBytes 0x04 row col 0 &&& wordOfBytes 0xFF 0x00 0x00 0xFF = wordOfBytes 0x04 0x00 0x00 0x00
    exact masked rfl (byte_and_zeros _) (byte_and_zeros _) rfl⟩

theorem wpb (idx : BitVec 8) (byte : Byte) : Statement (.wpb idx byte) :=
  fun _ => ⟨⟨"WPB", 0x05000000, 0xFFFF0000⟩, by decide, rfl, by
    show wordOfBytes 0x05 0 idx byte &&& wordOfBytes 0xFF 0xFF 0x00 0x00 = wordOfBytes 0x05 0x00 0x00 0x00
    exact masked rfl rfl (byte_and_zeros _) (byte_and_zeros _)⟩

theorem rpb (idx : BitVec 8) : Statement (.rpb idx) :=
  fun _ => ⟨⟨"RPB", 0x06000000, 0xFFFF00FF⟩, by decide, rfl, by
    show wordOfBytes 0x06 0 idx 0 &&& wordOfBytes 0xFF 0xFF 0x00 0xFF = wordOfBytes 0x06 0x00 0x00 0x00
    exact masked rfl rfl (byte_and_zeros _) rfl⟩

theorem papp (imm : Byte) : Statement (.papp imm) :=
  fun _ => ⟨⟨"PAPP", 0x07000000, 0xFFFFFF00⟩, by decide, rfl, by
    show wordOfBytes 0x07 0 0 imm &&& wordOfBytes 0xFF 0xFF 0xFF 0x00 = wordOfBytes 0x07 0x00 0x00 0x00
    exact masked rfl rfl rfl (byte_and_zeros _)⟩

theorem pclr : Statement .pclr :=
  fun _ => ⟨⟨"PCLR", 0x08000000, 0xFFFFFFFF⟩, by decide, rfl, by decide⟩

theorem srst : Statement .srst :=
  fun _ => ⟨⟨"SRST", 0x0F000000, 0xFFFFFFFF⟩, by decide, rfl, by decide⟩

theorem aenc (tag : BitVec 8) (adr : BitVec 8) : Statement (.aenc tag adr) :=
  fun _ => ⟨⟨"AENC", 0x10000000, 0xFFFF0000⟩, by decide, rfl, by
    show wordOfBytes 0x10 0 tag adr &&& wordOfBytes 0xFF 0xFF 0x00 0x00 = wordOfBytes 0x10 0x00 0x00 0x00
    exact masked rfl rfl (byte_and_zeros _) (byte_and_zeros _)⟩

theorem asplit (imm : Byte) : Statement (.asplit imm) :=
  fun _ => ⟨⟨"ASPLIT", 0x11000000, 0xFFFFFF00⟩, by decide, rfl, by
    show wordOfBytes 0x11 0 0 imm &&& wordOfBytes 0xFF 0xFF 0xFF 0x00 = wordOfBytes 0x11 0x00 0x00 0x00
    exact masked rfl rfl rfl (byte_and_zeros _)⟩

theorem pack2 (row0 : BitVec 8) (col : BitVec 8) (ord : BitOrder) (n : Nat) : Statement (.pack2 row0 col ord n) :=
  fun _ => ⟨⟨"PACK2", 0x20000000, 0xFF000000⟩, by decide, rfl, by
    show wordOfBytes 0x20 row0 col (sliceByte ord n) &&& wordOfBytes 0xFF 0x00 0x00 0x00 = wordOfBytes 0x20 0x00 0x00 0x00
    exact masked rfl (byte_and_zeros _) (byte_and_zeros _) (byte_and_zeros _)⟩

theorem pack1 (row0 : BitVec 8) (col : BitVec 8) (ord : BitOrder) (n : Nat) : Statement (.pack1 row0 col ord n) :=
  fun _ => ⟨⟨"PACK1", 0x21000000, 0xFF000000⟩, by decide, rfl, by
    show wordOfBytes 0x21 row0 col (sliceByte ord n) &&& wordOfBytes 0xFF 0x00 0x00 0x00 = wordOfBytes 0x21 0x00 0x00 0x00
    exact masked rfl (byte_and_zeros _) (byte_and_zeros _) (byte_and_zeros _)⟩

theorem sbegin : Statement .sbegin :=
  fun _ => ⟨⟨"SBEGIN", 0x30000000, 0xFFFFFFFF⟩, by decide, rfl, by decide⟩

theorem snext : Statement .snext :=
  fun _ => ⟨⟨"SNEXT", 0x31000000, 0xFFFFFFFF⟩, by decide, rfl, by decide⟩

theorem sabort : Statement .sabort :=
  fun _ => ⟨⟨"SABORT", 0x32000000, 0xFFFFFFFF⟩, by decide, rfl, by decide⟩

theorem encbmp : Statement .encbmp :=
  fun _ => ⟨⟨"ENCBMP", 0x33000000, 0xFFFFFFFF⟩, by decide, rfl, by decide⟩

theorem encinit : Statement .encinit :=
  fun _ => ⟨⟨"ENCINIT", 0x34000000, 0xFFFFFFFF⟩, by decide, rfl, by decide⟩

theorem binit : Statement .binit :=
  fun _ => ⟨⟨"BINIT", 0x40000000, 0xFFFFFFFF⟩, by decide, rfl, by decide⟩

theorem bdata (chunk : BitVec 8) (col : BitVec 8) : Statement (.bdata chunk col) :=
  fun _ => ⟨⟨"BDATA", 0x41000000, 0xFF0000FF⟩, by decide, rfl, by
    show wordOfBytes 0x41 chunk col 0 &&& wordOfBytes 0xFF 0x00 0x00 0xFF = wordOfBytes 0x41 0x00 0x00 0x00
    exact masked rfl (byte_and_zeros _) (byte_and_zeros _) rfl⟩

theorem csinit : Statement .csinit :=
  fun _ => ⟨⟨"CSINIT", 0x50000000, 0xFFFFFFFF⟩, by decide, rfl, by decide⟩

theorem csacc (imm : Byte) : Statement (.csacc imm) :=
  fun _ => ⟨⟨"CSACC", 0x51000000, 0xFFFFFF00⟩, by decide, rfl, by
    show wordOfBytes 0x51 0 0 imm &&& wordOfBytes 0xFF 0xFF 0xFF 0x00 = wordOfBytes 0x51 0x00 0x00 0x00
    exact masked rfl rfl rfl (byte_and_zeros _)⟩

theorem csbuf : Statement .csbuf :=
  fun _ => ⟨⟨"CSBUF", 0x52000000, 0xFFFFFFFF⟩, by decide, rfl, by decide⟩

theorem fopen : Statement .fopen :=
  fun _ => ⟨⟨"FOPEN", 0x53000000, 0xFFFFFFFF⟩, by decide, rfl, by decide⟩

theorem fput (imm : Byte) : Statement (.fput imm) :=
  fun _ => ⟨⟨"FPUT", 0x54000000, 0xFFFFFF00⟩, by decide, rfl, by
    show wordOfBytes 0x54 0 0 imm &&& wordOfBytes 0xFF 0xFF 0xFF 0x00 = wordOfBytes 0x54 0x00 0x00 0x00
    exact masked rfl rfl rfl (byte_and_zeros _)⟩

theorem fclose : Statement .fclose :=
  fun _ => ⟨⟨"FCLOSE", 0x55000000, 0xFFFFFFFF⟩, by decide, rfl, by decide⟩

theorem fenc : Statement .fenc :=
  fun _ => ⟨⟨"FENC", 0x56000000, 0xFFFFFFFF⟩, by decide, rfl, by decide⟩

end Sys2Proof.Laws.EncodesOwnRow
end

