-- ==== Sys2Proof/Laws/Plan.lean ====
section
/-! SUPPORT. The frames a session has still to send, and what one SNEXT does to them: it sends the first and leaves the rest
(43_chunk_planner.md R181, R184, R185). -/

namespace Sys2Proof.Machine

/-- The cursor is inside the session it walks. -/
structure State.AtFrame (s : State) : Prop where
  chunk : s.cchunk.toNat < chunksOf s.cfg s.sessionProfile s.sH.toNat
  col : s.ccol.toNat < s.sW.toNat
  chunks : chunksOf s.cfg s.sessionProfile s.sH.toNat ≤ 32
  cols : s.sW.toNat ≤ 256

/-- The data frames of chunk k from column `col` on. -/
def State.columnsFrom (s : State) (k col : Nat) : List (List Byte) :=
  (List.range' col (s.sW.toNat - col)).map
    (fun c => dataFrame s.cfg s.pix s.sessionProfile s.sAddr s.sW.toNat s.sH.toNat c k)

/-- The frames of the chunks from k on. -/
def State.chunksFrom (s : State) (k : Nat) : List (List Byte) :=
  (List.range' k (chunksOf s.cfg s.sessionProfile s.sH.toNat - k)).flatMap
    (chunkFrames s.cfg s.pix s.sessionProfile s.sAddr s.sW.toNat s.sH.toNat)

/-- The frames a session has still to send. -/
def State.remaining (s : State) : List (List Byte) :=
  match s.sst, s.phase with
  | .active, .init =>
    initFrame s.cfg s.sessionProfile s.sAddr
      :: (s.columnsFrom s.cchunk.toNat s.ccol.toNat ++ s.chunksFrom (s.cchunk.toNat + 1))
  | .active, .data => s.columnsFrom s.cchunk.toNat s.ccol.toNat ++ s.chunksFrom (s.cchunk.toNat + 1)
  | .idle, _ => []
  | .done, _ => []

theorem State.remaining_of_init {s : State} (h : s.sst = .active) (hp : s.phase = .init) :
    s.remaining = initFrame s.cfg s.sessionProfile s.sAddr
      :: (s.columnsFrom s.cchunk.toNat s.ccol.toNat ++ s.chunksFrom (s.cchunk.toNat + 1)) := by
  simp [State.remaining, h, hp]

theorem State.remaining_of_data {s : State} (h : s.sst = .active) (hp : s.phase = .data) :
    s.remaining = s.columnsFrom s.cchunk.toNat s.ccol.toNat ++ s.chunksFrom (s.cchunk.toNat + 1) := by
  simp [State.remaining, h, hp]

theorem State.remaining_of_done {s : State} (h : s.sst = .done) : s.remaining = [] := by
  simp [State.remaining, h]

/-- The columns and the chunks yet to come do not depend on the cursor. -/
theorem State.columnsFrom_congr {s t : State} (h1 : t.cfg = s.cfg) (h2 : t.pix = s.pix) (h3 : t.sPid = s.sPid)
    (h4 : t.sAddr = s.sAddr) (h5 : t.sW = s.sW) (h6 : t.sH = s.sH) (k col : Nat) :
    t.columnsFrom k col = s.columnsFrom k col := by
  simp [State.columnsFrom, State.sessionProfile, h1, h2, h3, h4, h5, h6]

theorem State.chunksFrom_congr {s t : State} (h1 : t.cfg = s.cfg) (h2 : t.pix = s.pix) (h3 : t.sPid = s.sPid)
    (h4 : t.sAddr = s.sAddr) (h5 : t.sW = s.sW) (h6 : t.sH = s.sH) (k : Nat) :
    t.chunksFrom k = s.chunksFrom k := by
  simp only [State.chunksFrom, State.sessionProfile, h1, h2, h3, h4, h5, h6]

theorem State.columnsFrom_cons {s : State} {col : Nat} (k : Nat) (h : col < s.sW.toNat) :
    s.columnsFrom k col
      = dataFrame s.cfg s.pix s.sessionProfile s.sAddr s.sW.toNat s.sH.toNat col k :: s.columnsFrom k (col + 1) := by
  unfold State.columnsFrom
  rw [show s.sW.toNat - col = (s.sW.toNat - (col + 1)) + 1 by omega, List.range'_succ, List.map_cons]

theorem State.columnsFrom_nil {s : State} {col : Nat} (k : Nat) (h : s.sW.toNat ≤ col) : s.columnsFrom k col = [] := by
  unfold State.columnsFrom
  rw [Nat.sub_eq_zero_of_le h, List.range'_zero, List.map_nil]

/-- A whole chunk's columns. -/
theorem State.columnsFrom_zero (s : State) (k : Nat) :
    s.columnsFrom k 0 = (List.range s.sW.toNat).map
      (fun c => dataFrame s.cfg s.pix s.sessionProfile s.sAddr s.sW.toNat s.sH.toNat c k) := by
  simp [State.columnsFrom, List.range_eq_range']

theorem State.chunksFrom_cons {s : State} {k : Nat} (h : k < chunksOf s.cfg s.sessionProfile s.sH.toNat) :
    s.chunksFrom k
      = (if k = 0 ∨ s.cfg.initPerChunk.at s.sessionProfile = true then [initFrame s.cfg s.sessionProfile s.sAddr] else [])
        ++ s.columnsFrom k 0 ++ s.chunksFrom (k + 1) := by
  unfold State.chunksFrom
  rw [show chunksOf s.cfg s.sessionProfile s.sH.toNat - k = (chunksOf s.cfg s.sessionProfile s.sH.toNat - (k + 1)) + 1
    by omega, List.range'_succ, List.flatMap_cons, chunkFrames, State.columnsFrom_zero]

theorem State.chunksFrom_nil {s : State} {k : Nat} (h : chunksOf s.cfg s.sessionProfile s.sH.toNat ≤ k) :
    s.chunksFrom k = [] := by
  unfold State.chunksFrom
  rw [Nat.sub_eq_zero_of_le h, List.range'_zero, List.flatMap_nil]

/-- A session that starts has its whole plan to send. -/
theorem State.remaining_startSession (s : State) (h : 0 < s.height.toNat) :
    s.startSession.remaining
      = sessionFrames s.cfg s.pix s.activeProfile s.addr s.width.toNat s.height.toNat := by
  have hc : 0 < chunksOf s.startSession.cfg s.startSession.sessionProfile s.startSession.sH.toNat := chunksOf_pos _ _ h
  rw [State.remaining_of_init rfl rfl]
  have := State.chunksFrom_cons hc
  rw [if_pos (Or.inl rfl)] at this
  refine this.symm.trans ?_
  simp only [State.chunksFrom, sessionFrames, List.range_eq_range', Nat.sub_zero]
  rfl

/-- One SNEXT sends the first frame still to be sent, and no other (43_chunk_planner.md R184, R185). -/
theorem State.remaining_sendNext {s : State} (ha : s.sst = .active) (h : s.AtFrame) :
    s.remaining = nextFrame s :: s.sendNext.remaining := by
  obtain ⟨h1, h2, h3, h4⟩ := h
  obtain ⟨c1, c2, c3, c4⟩ := State.sendNext_cursor s
  have hcol : ∀ k col, s.sendNext.columnsFrom k col = s.columnsFrom k col :=
    State.columnsFrom_congr (by simp) (by simp) (by simp) (by simp) (by simp) (by simp)
  have hchunk : ∀ k, s.sendNext.chunksFrom k = s.chunksFrom k :=
    State.chunksFrom_congr (by simp) (by simp) (by simp) (by simp) (by simp) (by simp)
  cases hp : s.phase with
  | init =>
    have hadv : s.advance = s.afterInitFrame := by simp [State.advance, hp]
    rw [hadv] at c1 c2 c3 c4
    rw [State.remaining_of_init ha hp, State.remaining_of_data (c1.trans ha) c2, c3, c4, hcol, hchunk]
    simp [nextFrame, nextCommandByte, nextPayload, initFrame, hp]
  | data =>
    have hadv : s.advance = s.afterDataFrame := by simp [State.advance, hp]
    have hf : nextFrame s = dataFrame s.cfg s.pix s.sessionProfile s.sAddr s.sW.toNat s.sH.toNat s.ccol.toNat
        s.cchunk.toNat := by
      simp [nextFrame, nextCommandByte, nextPayload, dataFrame, hp]
    have hk : (BitVec.ofNat 8 (s.cchunk.toNat + 1)).toNat = s.cchunk.toNat + 1 := by
      rw [BitVec.toNat_ofNat, Nat.mod_eq_of_lt (by omega)]
    rw [hadv] at c1 c2 c3 c4
    rw [State.remaining_of_data ha hp, State.columnsFrom_cons _ h2, hf, List.cons_append]
    congr 1
    rcases State.afterDataFrame_cases s with ⟨hc, e⟩ | ⟨hc, hl, e⟩ | ⟨hc, hl, hi, e⟩ | ⟨hc, hl, hi, e⟩ <;>
      rw [e] at c1 c2 c3 c4
    · have hn : (BitVec.ofNat 8 (s.ccol.toNat + 1)).toNat = s.ccol.toNat + 1 := by
        rw [BitVec.toNat_ofNat, Nat.mod_eq_of_lt (by omega)]
      rw [State.remaining_of_data (c1.trans ha) (c2.trans hp), c3, c4, hcol, hchunk]
      simp only [State.setCursor_cchunk, State.setCursor_ccol, hn, BitVec.ofNat_toNat, BitVec.setWidth_eq]
    · rw [State.remaining_of_done c1, State.columnsFrom_nil _ hc, State.chunksFrom_nil (Nat.le_of_eq hl.symm)]
      rfl
    · rw [State.remaining_of_init (c1.trans ha) c2, c3, c4, hcol, hchunk, State.columnsFrom_nil _ hc,
        State.chunksFrom_cons (by omega), if_pos (Or.inr hi)]
      simp [hk, State.sessionProfile]
    · rw [State.remaining_of_data (c1.trans ha) (c2.trans hp), c3, c4, hcol, hchunk, State.columnsFrom_nil _ hc,
        State.chunksFrom_cons (by omega), if_neg (by simp [hi])]
      simp [hk]

/-- A whole run of a session sends all that was left, in order, and counts it (43_chunk_planner.md R187). -/
theorem runSession_tx {P : State → Prop} (hP : ∀ u : State, u.sst = .active → P u → P u.sendNext)
    (hF : ∀ u : State, u.sst = .active → P u → u.AtFrame) (fuel : Nat) (s : State) (h : P s) :
    (runSession fuel s).1.tx = s.tx ++ (s.remaining.take fuel).flatten
      ∧ (runSession fuel s).1.remaining = s.remaining.drop fuel
      ∧ (runSession fuel s).2 = min fuel s.remaining.length := by
  induction fuel generalizing s with
  | zero => simp [runSession_zero]
  | succ fuel ih =>
    by_cases ha : s.sst = .active
    · obtain ⟨i1, i2, i3⟩ := ih _ (hP s ha h)
      rw [runSession_active s fuel ha, State.remaining_sendNext ha (hF s ha h)]
      refine ⟨?_, ?_, ?_⟩
      · simp [i1]
      · simp [i2]
      · simp only [i3, List.length_cons]
        omega
    · have hr : s.remaining = [] := by
        unfold State.remaining
        split
        · exact absurd ‹_› ha
        · exact absurd ‹_› ha
        · rfl
        · rfl
      rw [runSession_inactive s _ ha]
      simp [hr]

end Sys2Proof.Machine
end

