-- ==== Sys2Proof/Tests/Slice0.lean ====
section
/-! SUPPORT. Tests. Expected values are from spec/95_test_vectors.md: V.., P.. and L.. name the vector, program or example;
the words are written out from 30_encoding.md R101 to R104. The witnesses show that the hypotheses of each statement can be met. -/

namespace Sys2Proof.Machine

/-! ### The test configuration TCFG (95_test_vectors.md section 0) -/

def tcfg : Config :=
  { wMax := 256, hMax := 256
    trail := { fdLegacy := true, fdExt := true, led1 := false, led2 := false }
    ord := { fdLegacy := .lsbFirst, fdExt := .lsbFirst, led1 := .msbFirst, led2 := .msbFirst }
    initPerChunk := { fdLegacy := false, fdExt := false, led1 := false, led2 := false }
    params :=
      { codeFdInit := 0xA, codeFdData := 0xB, codeLed1Data := 0xC, codeLed2Data := 0xD
        codeLed1Init := none, codeLed2Init := some 0x9
        tplFdLegacy := [0xF1, 0xF2, 0xF3, 0xF4, 0xF5, 0xF6], tplLed1 := [], tplLed2 := [0x01, 0x7E]
        chLed1 := .rows8, chLed2 := .rows16 } }

/-- TCFG with the IPC override for FD_LEGACY (95_test_vectors.md section 2.3). -/
def ipcCfg : Config :=
  { tcfg with initPerChunk := { fdLegacy := true, fdExt := false, led1 := false, led2 := false } }

/-- Reset state with TCFG. -/
def start : State := { State.reset with cfg := tcfg }

/-- A selected profile and an address. -/
def withProfile (pid : BitVec 2) (addr : Nibble) : State := { start with pid := pid, pvalid := 1, addr := addr }

/-- A selected profile, an address and a bitmap size. -/
def withBitmap (pid : BitVec 2) (addr : Nibble) (width height : BitVec 9) : State :=
  { withProfile pid addr with width := width, height := height }

/-- The state "ext" of 95_test_vectors.md: FD_EXT, address 1, 2 x 16. -/
def ext : State := withBitmap 1 1 2 16

/-- FD_LEGACY, 2 x 12, address 2, on at (0,0), (9,1), (11,1): "lg". -/
def lg : State := { withBitmap 0 2 2 12 with pix := [(0, 1), (19, 1), (23, 1)] }

/-- One column of 16 rows, on at 0, 5, 10, 15 (95_test_vectors.md section 2.2). -/
def column : State := { start with width := 1, height := 16, pix := [(0, 1), (5, 1), (10, 1), (15, 1)] }

/-- An open hand-built frame. -/
def opened : State := { start with fstate := .opened }

/-- A session of a profile, width and height at a place of its cursor. -/
def inSession (c : Config) (pid : BitVec 2) (w h : BitVec 9) (sst : SessionState) (ph : Phase) (k col : BitVec 8) : State :=
  { start with cfg := c, sPid := pid, sAddr := 1, sW := w, sH := h, sst := sst, phase := ph, cchunk := k, ccol := col }

/-- The response and the whole TXLOG. -/
def answer : Result → Option (BitVec 3 × Datum × List Byte)
  | .next t => some (t.rspStatus, t.rspData, t.tx)
  | .fault _ => none
  | .refused _ => none

/-- One part of the next state. -/
def part {α : Type} (f : State → α) : Result → Option α
  | .next t => some (f t)
  | .fault _ => none
  | .refused _ => none

/-! ### WellFormed: an ill-formed term of each form it checks -/

theorem test_wellFormed_refuses_pack2_slice_128 : (Instr.pack2 0 0 .lsbFirst 128).wellFormed = false := by decide
theorem test_wellFormed_refuses_pack1_slice_128 : (Instr.pack1 0 0 .msbFirst 128).wellFormed = false := by decide
theorem test_wellFormed_takes_slice_127 :
    (Instr.pack2 0 0 .lsbFirst 127).wellFormed = true ∧ (Instr.pack1 0 0 .lsbFirst 127).wellFormed = true := by decide

/-! ### Decoding, a word written out for each constructor -/

theorem test_decode_nop : decode 0b00000000000000000000000000000000 = .ok .nop := by decide
theorem test_decode_wreg : decode 0b00000001000001000001001000110100 = .ok (.wreg 0x04 0x1234) := by decide
theorem test_decode_rreg : decode 0b00000010000001000000000000000000 = .ok (.rreg 0x04) := by decide
theorem test_decode_wpix : decode 0b00000011000000110000000100000001 = .ok (.wpix 3 1 1) := by decide
theorem test_decode_rpix : decode 0b00000100000000110000000100000000 = .ok (.rpix 3 1) := by decide
theorem test_decode_wpb : decode 0b00000101000000001111111101010101 = .ok (.wpb 255 0x55) := by decide
theorem test_decode_rpb : decode 0b00000110000000001111111100000000 = .ok (.rpb 255) := by decide
theorem test_decode_papp : decode 0b00000111000000000000000001111110 = .ok (.papp 0x7E) := by decide
theorem test_decode_pclr : decode 0b00001000000000000000000000000000 = .ok .pclr := by decide
theorem test_decode_srst : decode 0b00001111000000000000000000000000 = .ok .srst := by decide
theorem test_decode_aenc : decode 0b00010000000000000000001000000101 = .ok (.aenc 2 5) := by decide
theorem test_decode_asplit : decode 0b00010001000000000000000010100101 = .ok (.asplit 0xA5) := by decide
theorem test_decode_pack2 : decode 0b00100000000001000000000110010000 = .ok (.pack2 4 1 .msbFirst 16) := by decide
theorem test_decode_pack1 : decode 0b00100001000011000000000000001000 = .ok (.pack1 12 0 .lsbFirst 8) := by decide
theorem test_decode_sbegin : decode 0b00110000000000000000000000000000 = .ok .sbegin := by decide
theorem test_decode_snext : decode 0b00110001000000000000000000000000 = .ok .snext := by decide
theorem test_decode_sabort : decode 0b00110010000000000000000000000000 = .ok .sabort := by decide
theorem test_decode_encbmp : decode 0b00110011000000000000000000000000 = .ok .encbmp := by decide
theorem test_decode_encinit : decode 0b00110100000000000000000000000000 = .ok .encinit := by decide
theorem test_decode_binit : decode 0b01000000000000000000000000000000 = .ok .binit := by decide
theorem test_decode_bdata : decode 0b01000001000000010000010100000000 = .ok (.bdata 1 5) := by decide
theorem test_decode_csinit : decode 0b01010000000000000000000000000000 = .ok .csinit := by decide
theorem test_decode_csacc : decode 0b01010001000000000000000001011110 = .ok (.csacc 0x5E) := by decide
theorem test_decode_csbuf : decode 0b01010010000000000000000000000000 = .ok .csbuf := by decide
theorem test_decode_fopen : decode 0b01010011000000000000000000000000 = .ok .fopen := by decide
theorem test_decode_fput : decode 0b01010100000000000000000010110001 = .ok (.fput 0xB1) := by decide
theorem test_decode_fclose : decode 0b01010101000000000000000000000000 = .ok .fclose := by decide
theorem test_decode_fenc : decode 0b01010110000000000000000000000000 = .ok .fenc := by decide

/-- V41-16, V41-17, V46-2, V46-20, V46-24: a reserved or zero-by-rule bit is set. -/
theorem test_decode_refuses_reserved_bits :
    decode 0x10FF0001 = .error .reservedBits ∧ decode 0x11000100 = .error .reservedBits
      ∧ decode 0x00000001 = .error .reservedBits ∧ decode 0x02040001 = .error .reservedBits
      ∧ decode 0x03030103 = .error .reservedBits := by decide

/-- V46-34 to V46-36: unassigned opcodes. -/
theorem test_decode_refuses_unassigned_opcodes :
    decode 0x09000000 = .error .unassignedOpcode ∧ decode 0xFF000000 = .error .unassignedOpcode
      ∧ decode 0x57000000 = .error .unassignedOpcode := by decide

/-- The host's reading of a table word, and the word it stands for. -/
theorem test_decodeTableWord : decodeTableWord 32 0x20000010 = some (.pack2 0 0 .lsbFirst 16) := by decide
theorem test_withFetchWord : answer (step (State.reset.withFetchWord 32 0x07000055)) = some (0, 1, []) := by decide

/-! ### One step of each command -/

/-- V46-1. -/
theorem test_nop : answer (exec .nop start) = some (0, 0, []) := by decide
/-- V46-4. -/
theorem test_wreg_profile_ignores_other_bits : answer (exec (.wreg 0x00 0xFF83) start) = some (0, 0x83, []) := by decide
/-- V46-7, V46-8, V46-14. -/
theorem test_wreg_limits :
    answer (exec (.wreg 0x02 0x0100) start) = some (0, 0x100, []) ∧ answer (exec (.wreg 0x02 0x0101) start) = some (3, 0, [])
      ∧ answer (exec (.wreg 0x07 0x0001) start) = some (5, 0, []) := by decide
/-- V46-18. -/
theorem test_rreg_session :
    answer (exec (.rreg 0x08) (inSession tcfg 1 2 16 .active .data 0 0)) = some (0, 5, []) := by decide
/-- V46-19. -/
theorem test_rreg_unassigned : answer (exec (.rreg 0x0F) start) = some (5, 0, []) := by decide
/-- V46-21: cell 3 * 2 + 1. -/
theorem test_wpix : part (fun t => t.pix) (exec (.wpix 3 1 1) ext) = some [(7, 1)] := by decide
/-- V46-23. -/
theorem test_wpix_outside : answer (exec (.wpix 16 0 1) ext) = some (3, 0, []) := by decide
/-- V46-22. -/
theorem test_rpix : answer (exec (.rpix 3 1) { ext with pix := [(7, 1)] }) = some (0, 1, []) := by decide
/-- V46-28. -/
theorem test_wpb : part (fun t => (t.pbuf, t.plen)) (exec (.wpb 255 0x55) start) = some ([(255, 0x55)], 0) := by decide
/-- V46-27. -/
theorem test_rpb : answer (exec (.rpb 0) { start with pbuf := [(0, 0x7D)] }) = some (0, 0x7D, []) := by decide
/-- V46-30, V46-31. -/
theorem test_papp_last_byte :
    answer (exec (.papp 0x01) { start with plen := 255 }) = some (0, 0x100, [])
      ∧ answer (exec (.papp 0x01) { start with plen := 256 }) = some (7, 0, []) := by decide
/-- V46-32. -/
theorem test_pclr : part (fun t => (t.plen, t.pbuf)) (exec .pclr { start with plen := 2, pbuf := [(1, 9)] }) = some (0, [(1, 9)]) := by
  decide
/-- V46-33. -/
theorem test_srst :
    part (fun t => (t.pvalid, t.acc, t.fstate, t.tx)) (exec .srst { withProfile 1 0 with acc := 0x12, fstate := .opened, tx := [0x7E] })
      = some (0, 0xFF, .idle, [0x7E]) := by decide
/-- V41-2, V41-3, V41-4. -/
theorem test_aenc :
    answer (exec (.aenc 1 15) (withProfile 1 0)) = some (0, 0xBF, []) ∧ answer (exec (.aenc 1 16) (withProfile 1 0)) = some (1, 0, [])
      ∧ answer (exec (.aenc 2 0) (withProfile 1 0)) = some (2, 0, []) := by decide
/-- V41-7. -/
theorem test_aenc_address_outranks_code : answer (exec (.aenc 0 16) start) = some (1, 0, []) := by decide
/-- V41-12. -/
theorem test_asplit : answer (exec (.asplit 0xA5) start) = some (0, 0x0A05, []) := by decide
/-- V42-1. -/
theorem test_pack2_lsb :
    part (fun t => t.payload) (exec (.pack2 0 0 .lsbFirst 16) column) = some [0xAB, 0xAE, 0xBA, 0xEA] := by decide
/-- V42-2. -/
theorem test_pack2_msb :
    part (fun t => t.payload) (exec (.pack2 0 0 .msbFirst 16) column) = some [0xEA, 0xBA, 0xAE, 0xAB] := by decide
/-- V42-4. -/
theorem test_pack1_lsb : part (fun t => t.payload) (exec (.pack1 0 0 .lsbFirst 16) column) = some [0x21, 0x84] := by decide
/-- V42-9: rows past HEIGHT are off. -/
theorem test_pack1_past_height : part (fun t => t.payload) (exec (.pack1 12 0 .msbFirst 8) column) = some [0x10] := by decide
/-- V43-2. -/
theorem test_sbegin : answer (exec .sbegin (withBitmap 0 2 3 20)) = some (0, 10, []) := by decide
/-- V43-5, V43-4, V43-6. -/
theorem test_sbegin_refusals :
    answer (exec .sbegin (withBitmap 2 0 1 8)) = some (2, 0, []) ∧ answer (exec .sbegin (withBitmap 1 0 0 16)) = some (3, 0, [])
      ∧ answer (exec .sbegin { ext with fstate := .opened }) = some (6, 0, []) := by decide
/-- V43-9. -/
theorem test_snext_last_frame :
    answer (exec .snext (inSession tcfg 1 2 16 .active .data 0 1))
      = some (0, 0x000A, [0x7E, 0xB1, 0x01, 0xAA, 0xAA, 0xAA, 0xAA, 0x00, 0x4F, 0x7E]) := by decide
/-- The second frame of the IPC walk (95_test_vectors.md section 2.3): an init frame comes next. -/
theorem test_snext_init_per_chunk :
    part (fun t => (t.sst, t.phase, t.cchunk, t.ccol)) (exec .snext (inSession ipcCfg 0 1 12 .active .data 0 0))
      = some (.active, .init, 1, 0) := by decide
/-- V43-11: the shadows stay. -/
theorem test_sabort :
    part (fun t => (t.sst, t.phase, t.sW)) (exec .sabort (inSession tcfg 1 2 16 .active .data 0 0)) = some (.idle, .init, 2) := by
  decide
/-- V43-13. -/
theorem test_encbmp :
    answer (exec .encbmp { withBitmap 1 1 1 1 with pix := [(0, 1)] })
      = some (0, 2, [0x7E, 0xA1, 0x00, 0x10, 0x00, 0x50, 0x00, 0x02, 0x2E, 0x32, 0x7E,
          0x7E, 0xB1, 0x00, 0xAB, 0xAA, 0xAA, 0xAA, 0x00, 0x4F, 0x7E]) := by decide
/-- V43-14: one bit per pixel, an escaped template byte. -/
theorem test_encbmp_led2 :
    answer (exec .encbmp { withBitmap 3 3 1 16 with pix := [(0, 1), (9, 1)] })
      = some (0, 2, [0x7E, 0x93, 0x01, 0x7D, 0x5E, 0x13, 0x7E, 0x7E, 0xD3, 0x00, 0x80, 0x40, 0xEC, 0x7E]) := by decide
/-- V43-15, V43-16. -/
theorem test_encinit :
    answer (exec .encinit (withProfile 3 0)) = some (0, 7, [0x7E, 0x90, 0x01, 0x7D, 0x5E, 0x10, 0x7E])
      ∧ answer (exec .encinit (withProfile 2 0)) = some (2, 0, []) := by decide
/-- V44-1. -/
theorem test_binit :
    part (fun t => (t.cmdb, t.payload)) (exec .binit (withProfile 1 1)) = some (0xA1, [0x00, 0x10, 0x00, 0x50, 0x00, 0x02, 0x2E]) := by
  decide
/-- V44-7. -/
theorem test_bdata : part (fun t => (t.cmdb, t.payload)) (exec (.bdata 1 1) lg) = some (0xB2, [0x01, 0xEE, 0xAA, 0x00]) := by decide
/-- V44-9, V44-10. -/
theorem test_bdata_outside :
    answer (exec (.bdata 2 0) lg) = some (3, 0, []) ∧ answer (exec (.bdata 0 2) lg) = some (3, 0, []) := by decide
/-- V45-1. -/
theorem test_csinit : part (fun t => (t.acc, t.rspData)) (exec .csinit { start with acc := 0x12 }) = some (0xFF, 0x00FF) := by decide
/-- V45-2, V45-18. -/
theorem test_csacc :
    answer (exec (.csacc 0xA1) start) = some (0, 0x5E, []) ∧ answer (exec (.csacc 0x01) opened) = some (6, 0, []) := by decide
/-- V45-9. -/
theorem test_csbuf : answer (exec .csbuf { start with cmdb := 0x81 }) = some (0, 0x7E, []) := by decide
/-- V45-10, V45-15. -/
theorem test_fopen : answer (exec .fopen start) = some (0, 0, [0x7E]) ∧ answer (exec .fopen opened) = some (6, 0, []) := by decide
/-- V45-11. -/
theorem test_fput : answer (exec (.fput 0x7E) opened) = some (0, 0x81, [0x7D, 0x5E]) := by decide
/-- V45-14. -/
theorem test_fclose : answer (exec .fclose { opened with acc := 0x7D }) = some (0, 0x7D, [0x7D, 0x5D, 0x7E]) := by decide
/-- V45-20. -/
theorem test_fenc :
    answer (exec .fenc { start with cmdb := 0x7E, pbuf := [(0, 0x7D)], plen := 1 })
      = some (0, 7, [0x7E, 0x7D, 0x5E, 0x7D, 0x5D, 0xFC, 0x7E]) := by decide
/-- V45-23, V45-25. -/
theorem test_fenc_empty_payload :
    answer (exec .fenc { withProfile 1 0 with cmdb := 0xB1 }) = some (4, 0, [])
      ∧ answer (exec .fenc { withProfile 3 0 with cmdb := 0xB1 }) = some (0, 4, [0x7E, 0xB1, 0x4E, 0x7E]) := by decide

/-! ### States that meet the invariant -/

theorem ext_inv : ext.Inv :=
  { config := by decide, width := by decide, height := by decide, plen := by decide, pbuf := by decide, pix := by decide
    shadowWidth := by decide, shadowHeight := by decide, session := ⟨rfl, rfl, rfl⟩, response := by decide }

theorem lg_inv : lg.Inv :=
  { config := by decide, width := by decide, height := by decide, plen := by decide, pbuf := by decide, pix := by decide
    shadowWidth := by decide, shadowHeight := by decide, session := ⟨rfl, rfl, rfl⟩, response := by decide }

/-- A session before the init frame of its second chunk. -/
theorem init_inv : (inSession ipcCfg 0 2 12 .active .init 1 0).Inv :=
  { config := by decide, width := by decide, height := by decide, plen := by decide, pbuf := by decide, pix := by decide
    shadowWidth := by decide, shadowHeight := by decide
    session := ⟨by decide, by decide, by decide, by decide, by decide, by decide, by decide⟩, response := by decide }

/-- A session before its last data frame. -/
theorem data_inv : (inSession tcfg 1 256 256 .active .data 15 255).Inv :=
  { config := by decide, width := by decide, height := by decide, plen := by decide, pbuf := by decide, pix := by decide
    shadowWidth := by decide, shadowHeight := by decide
    session := ⟨by decide, by decide, by decide, by decide, by decide, by decide, by decide⟩, response := by decide }

/-- A session after its last data frame. -/
theorem done_inv : (inSession tcfg 1 256 256 .done .data 16 0).Inv :=
  { config := by decide, width := by decide, height := by decide, plen := by decide, pbuf := by decide, pix := by decide
    shadowWidth := by decide, shadowHeight := by decide, session := ⟨rfl, by decide, rfl⟩, response := by decide }

/-! ### Witnesses: the hypotheses of each statement, clause by clause -/

theorem witness_WregChecksThenWritesTheRegister :
    (7 ≤ (0x07 : BitVec 8).toNat ∧ 7 ≤ (0xFF : BitVec 8).toNat)
      ∧ 15 < (16 : Datum).toNat ∧ (15 : Datum).toNat ≤ 15
      ∧ start.cfg.wMax < (257 : Datum).toNat ∧ (256 : Datum).toNat ≤ start.cfg.wMax
      ∧ start.cfg.hMax < (257 : Datum).toNat ∧ (256 : Datum).toNat ≤ start.cfg.hMax
      ∧ 256 < (257 : Datum).toNat ∧ (256 : Datum).toNat ≤ 256 := by decide

theorem witness_RregAnswersEachRegister : 0x0F ≤ (0x0F : BitVec 8).toNat ∧ 0x0F ≤ (0xFF : BitVec 8).toNat := by decide

/-- Rows 15 and 16, columns 1 and 2, for WPIX and RPIX alike. -/
theorem witness_WpixWritesOneCell_RpixAnswersOneCell :
    ext.height.toNat ≤ (16 : BitVec 8).toNat ∧ ext.width.toNat ≤ (2 : BitVec 8).toNat
      ∧ (15 : BitVec 8).toNat < ext.height.toNat ∧ (1 : BitVec 8).toNat < ext.width.toNat := by decide

theorem witness_PappAppendsOneByte :
    { start with plen := 256 }.plen = 256 ∧ { start with plen := 255 }.plen ≠ 256 := by decide

theorem witness_AencMergesCodeAndAddress :
    15 < (16 : BitVec 8).toNat
      ∧ (15 : BitVec 8).toNat ≤ 15 ∧ start.pvalid = 0
      ∧ code (withProfile 2 0).cfg (profileOf (withProfile 2 0).pid) 0 = none
      ∧ (withProfile 1 0).pvalid = 1 ∧ code (withProfile 1 0).cfg (profileOf (withProfile 1 0).pid) 1 = some 0xB := by decide

theorem witness_CodeMapOfEveryProfile : 3 ≤ (3 : BitVec 8).toNat ∧ 3 ≤ (255 : BitVec 8).toNat := by decide

theorem witness_Pack2AppendsThePackedSlice :
    127 < 128 ∧ column.width.toNat ≤ (1 : BitVec 8).toNat
      ∧ (0 : BitVec 8).toNat < column.width.toNat
      ∧ 256 < { column with plen := 255 }.plen.toNat + (8 + 3) / 4
      ∧ { column with plen := 254 }.plen.toNat + (8 + 3) / 4 ≤ 256 := by decide

theorem witness_Pack1AppendsThePackedSlice :
    127 < 128 ∧ column.width.toNat ≤ (1 : BitVec 8).toNat
      ∧ (0 : BitVec 8).toNat < column.width.toNat
      ∧ 256 < { column with plen := 256 }.plen.toNat + (1 + 7) / 8
      ∧ { column with plen := 255 }.plen.toNat + (8 + 7) / 8 ≤ 256 := by decide

theorem witness_SliceRunsDownTheColumn : 15 < 16 := by decide

theorem witness_Pack2FieldsHoldThePixelCodes : 1 < (([1, 0, 1, 0, 1] : List Pixel).length + 3) / 4 ∧ 3 < 4 := by decide

theorem witness_Pack1BitsHoldThePixels : 1 < (([1, 0, 1, 0, 1, 1, 0, 1, 1] : List Pixel).length + 7) / 8 ∧ 7 < 8 := by decide

theorem witness_UnpackUndoesPack : (0xAB : Byte) ∈ pack2 [1] .lsbFirst := by decide

theorem witness_BinitBuildsTheInitFrame :
    start.pvalid = 0 ∧ code (withProfile 2 0).cfg (profileOf (withProfile 2 0).pid) 0 = none
      ∧ (withProfile 1 1).pvalid = 1 ∧ code (withProfile 1 1).cfg (profileOf (withProfile 1 1).pid) 0 = some 0xA := by decide

/-- Each ground of the refusal alone at its boundary, then the last column of the last chunk. -/
theorem witness_BdataBuildsOneDataFrame :
    start.pvalid = 0 ∧ (withBitmap 1 0 0 16).width = 0 ∧ (withBitmap 1 0 2 0).height = 0
      ∧ lg.width.toNat ≤ (2 : BitVec 8).toNat
      ∧ nchunks lg.height.toNat (chunkHeight lg.cfg (profileOf lg.pid)) ≤ (2 : BitVec 8).toNat
      ∧ lg.pvalid = 1 ∧ lg.width ≠ 0 ∧ lg.height ≠ 0 ∧ (1 : BitVec 8).toNat < lg.width.toNat
      ∧ (1 : BitVec 8).toNat < nchunks lg.height.toNat (chunkHeight lg.cfg (profileOf lg.pid)) := by decide

/-- The framer's two states: of CSINIT, CSACC, CSBUF (with PLEN = 0), FOPEN, FPUT and FCLOSE. -/
theorem witness_framer_states : opened.fstate = .opened ∧ start.fstate = .idle ∧ start.plen = 0 := by decide

theorem witness_FencSendsTheRawFrame :
    opened.fstate = .opened
      ∧ ((withProfile 1 0).fstate = .idle ∧ (withProfile 1 0).plen = 0 ∧ (withProfile 1 0).pvalid = 1
        ∧ code (withProfile 1 0).cfg (profileOf (withProfile 1 0).pid) (dataTag (profileOf (withProfile 1 0).pid))
          = some ({ withProfile 1 0 with cmdb := 0xB1 }.cmdb.extractLsb' 4 4))
      ∧ (start.fstate = .idle ∧ ¬ (start.plen = 0 ∧ start.pvalid = 1
        ∧ code start.cfg (profileOf start.pid) (dataTag (profileOf start.pid)) = some (start.cmdb.extractLsb' 4 4))) := by
  decide

theorem witness_FrameMarkersStandOnlyAtTheEnds :
    0 < (wire 0x7E [0x7D]).length ∧ 6 < (wire 0x7E [0x7D]).length ∧ (wire 0x7E [0x7D])[1]? = some 0x7D
      ∧ (wire 0x7E [0x7D])[3]? = some 0x7D ∧ List.Perm [(1 : Byte), 2] [2, 1] := by decide

theorem witness_EscapingIsMarkerFreeAndInvertible : unesc [0x01, 0x7D, 0x5E, 0x02] = some [0x01, 0x7E, 0x02] := by decide

/-- A payload with both reserved bytes, and an empty one under a command byte that needs no data. -/
theorem witness_HandBuiltFrameEqualsFenc :
    start.fstate = .idle
      ∧ (∃ u : State, u.fstate = .idle ∧ u.cmdb = 0xB1 ∧ (List.range u.plen.toNat).map u.pbufByte = [0x7E, 0x7D, 0x00])
      ∧ (∃ u : State, u.fstate = .idle ∧ u.cmdb = 0xA1 ∧ (List.range u.plen.toNat).map u.pbufByte = []
        ∧ requiresData u 0xA1 = false) :=
  ⟨by decide, ⟨{ start with cmdb := 0xB1, plen := 3, pbuf := [(0, 0x7E), (1, 0x7D)] }, by decide, by decide, by decide⟩,
    ⟨{ withProfile 1 0 with cmdb := 0xA1 }, by decide, by decide, by decide, by decide⟩⟩

theorem witness_OpenFrameLocksOutFramingCommands :
    opened.fstate = .opened ∧ lockedByOpenFrame .fopen = true ∧ lockedByOpenFrame .snext = true
      ∧ lockedByOpenFrame (.csacc 0) = true ∧ start.fstate = .idle ∧ ((∃ imm, Instr.fput 0x7E = .fput imm)) :=
  ⟨by decide, by decide, by decide, by decide, by decide, ⟨0x7E, rfl⟩⟩

theorem witness_SbeginLatchesAndCounts :
    opened.fstate = .opened
      ∧ (start.fstate = .idle ∧ start.pvalid = 0 ∧ (withBitmap 1 0 0 16).width = 0 ∧ (withBitmap 1 0 2 0).height = 0)
      ∧ ((withBitmap 2 0 1 8).fstate = .idle ∧ (withBitmap 2 0 1 8).pvalid = 1 ∧ (withBitmap 2 0 1 8).width ≠ 0
        ∧ (withBitmap 2 0 1 8).height ≠ 0
        ∧ code (withBitmap 2 0 1 8).cfg (profileOf (withBitmap 2 0 1 8).pid) 0 = none)
      ∧ (ext.fstate = .idle ∧ ext.pvalid = 1 ∧ ext.width ≠ 0 ∧ ext.height ≠ 0
        ∧ code ext.cfg (profileOf ext.pid) 0 ≠ none
        ∧ code ext.cfg (profileOf ext.pid) (dataTag (profileOf ext.pid)) ≠ none) := by decide

/-- The state of a session's cursor that SNEXT's third clause asks for, with the two booleans it names. -/
def DataFrameNext (s : State) (k : Nibble) (lastCol lastChunk : Bool) : Prop :=
  s.fstate = .idle ∧ s.sst = .active ∧ s.phase = .data
    ∧ code s.cfg (profileOf s.sPid) (dataTag (profileOf s.sPid)) = some k
    ∧ lastCol = decide (s.sW.toNat ≤ s.ccol.toNat + 1)
    ∧ lastChunk = decide (s.cchunk.toNat + 1 = nchunks s.sH.toNat (chunkHeight s.cfg (profileOf s.sPid)))

/-- Refused; an init frame; the last column of the last chunk; the last column of an earlier one, without and with an init
frame to come; a column that is not the last; the column 255 of 256. -/
theorem witness_SnextSendsTheFrameAtTheCursor :
    (opened.fstate = .opened ∧ start.sst ≠ .active)
      ∧ ((inSession tcfg 1 2 16 .active .init 0 0).fstate = .idle ∧ (inSession tcfg 1 2 16 .active .init 0 0).sst = .active
        ∧ (inSession tcfg 1 2 16 .active .init 0 0).phase = .init ∧ code tcfg (profileOf 1) 0 = some 0xA)
      ∧ DataFrameNext (inSession tcfg 1 2 16 .active .data 0 1) 0xB true true
      ∧ DataFrameNext (inSession tcfg 0 2 12 .active .data 0 1) 0xB true false
      ∧ DataFrameNext (inSession ipcCfg 0 2 12 .active .data 0 1) 0xB true false
      ∧ DataFrameNext (inSession tcfg 0 2 12 .active .data 1 0) 0xB false true
      ∧ DataFrameNext (inSession tcfg 1 256 256 .active .data 15 255) 0xB true true := by
  unfold DataFrameNext
  decide

theorem witness_EncbmpEmitsTheWholeSession :
    sessionError opened = some .sequenceError ∧ sessionError start = some .dimensionMismatch
      ∧ sessionError (withBitmap 2 0 1 8) = some .unknownCommand ∧ lg.Inv ∧ sessionError lg = none :=
  ⟨by decide, by decide, by decide, lg_inv, by decide⟩

theorem witness_EncinitEmitsTheInitFrame :
    opened.fstate = .opened ∧ start.fstate = .idle ∧ start.pvalid = 0
      ∧ code (withProfile 2 0).cfg (profileOf (withProfile 2 0).pid) 0 = none
      ∧ ((withProfile 3 0).cfg.legal = true ∧ (withProfile 3 0).fstate = .idle ∧ (withProfile 3 0).pvalid = 1
        ∧ code (withProfile 3 0).cfg (profileOf (withProfile 3 0).pid) 0 = some 0x9
        ∧ [0x01, 0x7E] = initPayload (withProfile 3 0).cfg (profileOf (withProfile 3 0).pid)) := by decide

theorem witness_SessionPlanHasFrameCountFrames :
    1 ≤ 1 ∧ 1 ≤ 256 ∧ 256 ≤ 256 ∧ frameCount ipcCfg .fdLegacy 256 256 = 8224 := by decide

/-- The whole walk, and the empty one. -/
theorem witness_SnextWalksTheSessionPlan :
    lg.Inv ∧ sessionError lg = none ∧ 5 = frameCount lg.cfg (profileOf lg.pid) lg.width.toNat lg.height.toNat
      ∧ 0 ≤ frameCount lg.cfg (profileOf lg.pid) lg.width.toNat lg.height.toNat :=
  ⟨lg_inv, by decide, by decide, by decide⟩

/-- Two states in one session whose registers differ. -/
theorem witness_SessionFramesDependOnlyOnLatchedState :
    ∃ s s' : State, s.fstate = .idle ∧ s'.fstate = .idle ∧ s'.cfg = s.cfg ∧ s'.pix = s.pix
      ∧ s'.sPid = s.sPid ∧ s'.sAddr = s.sAddr ∧ s'.sW = s.sW ∧ s'.sH = s.sH
      ∧ s'.sst = s.sst ∧ s'.phase = s.phase ∧ s'.cchunk = s.cchunk ∧ s'.ccol = s.ccol
      ∧ s.sst = .active ∧ s'.addr ≠ s.addr ∧ s'.width ≠ s.width ∧ s'.cmdb ≠ s.cmdb :=
  ⟨inSession tcfg 1 2 16 .active .data 0 1,
    { inSession tcfg 1 2 16 .active .data 0 1 with pid := 3, pvalid := 1, addr := 5, width := 9, cmdb := 7, plen := 3 },
    rfl, rfl, rfl, rfl, rfl, rfl, rfl, rfl, rfl, rfl, rfl, rfl, rfl, by decide, by decide, by decide⟩

theorem witness_DecodeAndEncodeAgree :
    (Instr.pack2 255 255 .msbFirst 127).wellFormed = true ∧ (Instr.wreg 255 0xFFFF).wellFormed = true
      ∧ decode 0x20FFFFFF = .ok (.pack2 255 255 .msbFirst 127) := by decide

theorem witness_DecodeFollowsTheOpcodeMap :
    decode 0x03FFFF01 = .ok (.wpix 255 255 1) ∧ ⟨"WPIX", 0x03000000, 0xFF0000FE⟩ ∈ opcodeTable
      ∧ (0x03FFFF01 : Word) &&& 0xFF0000FE = 0x03000000 := by decide

theorem witness_StepRunsTheDecodedCommand :
    { start with cmd := [0x53000000, 0x55000000] }.cmd = 0x53000000 :: [0x55000000] ∧ decode 0x53000000 = .ok .fopen
      ∧ start.cmd = [] := by decide

/-- An unassigned opcode and a reserved bit. -/
theorem witness_IllegalWordsRaiseIllegalCommand :
    { start with cmd := [0x09000000] }.cmd = 0x09000000 :: []
      ∧ (∀ r ∈ opcodeTable, (0x09000000 : Word) &&& r.mask ≠ r.pattern)
      ∧ ∀ r ∈ opcodeTable, (0x03030103 : Word) &&& r.mask ≠ r.pattern := by decide

theorem witness_FailedCommandChangesOnlyTheResponse :
    ∃ s t : State, s.cmd = 0x31000000 :: [0x00000000] ∧ step s = .next t ∧ t.rspStatus ≠ 0 :=
  ⟨{ start with cmd := [0x31000000, 0x00000000] }, _, rfl, rfl, by decide⟩

theorem witness_ErrorsOfEachCommand :
    (∃ t, exec .snext start = .next t) ∧ decode 0x09000000 = .error .unassignedOpcode
      ∧ ∃ t, accept 0x09000000 start = .next t :=
  ⟨⟨_, rfl⟩, by decide, ⟨_, rfl⟩⟩

/-- A command that emits and one that does not. -/
theorem witness_TxOnlyGrowsAndOnlyByFramingCommands :
    (∃ t, exec .fopen start = .next t) ∧ (∃ t, exec .binit ext = .next t) ∧ emitsBytes .binit = false :=
  ⟨⟨_, rfl⟩, ⟨_, rfl⟩, by decide⟩

/-- ENCBMP keeps the configuration and PIX, FENC the payload and its length, FOPEN the command byte, BINIT ACC. -/
theorem witness_CodecStateIsWrittenOnlyByItsCommands :
    (∃ t, exec .encbmp (withBitmap 1 1 1 1) = .next t) ∧ writesConfiguration .encbmp = false ∧ writesPixels .encbmp = false
      ∧ (∃ t, exec .fenc start = .next t) ∧ writesPayload .fenc = false ∧ writesPayloadLength .fenc = false
      ∧ (∃ t, exec .fopen start = .next t) ∧ writesCommandByte .fopen = false
      ∧ (∃ t, exec .binit ext = .next t) ∧ writesAccumulator .binit = false :=
  ⟨⟨_, rfl⟩, by decide, by decide, ⟨_, rfl⟩, by decide, by decide, ⟨_, rfl⟩, by decide, ⟨_, rfl⟩, by decide⟩

theorem witness_ControlStateIsWrittenOnlyByItsCommands :
    (∃ t, exec .fenc start = .next t) ∧ writesFramer .fenc = false ∧ writesCursor .fenc = false ∧ writesShadows .fenc = false :=
  ⟨⟨_, rfl⟩, by decide, by decide, by decide⟩

/-- An idle state, and sessions before an init frame, before the last data frame and after it. -/
theorem witness_EveryStepKeepsTheInvariant :
    (ext.Inv ∧ ∃ t, step ext = .next t)
      ∧ (inSession ipcCfg 0 2 12 .active .init 1 0).Inv ∧ (inSession tcfg 1 256 256 .active .data 15 255).Inv
      ∧ (inSession tcfg 1 256 256 .done .data 16 0).Inv :=
  ⟨⟨ext_inv, _, rfl⟩, init_inv, data_inv, done_inv⟩

theorem witness_CanonicalMemoriesAreEqualWhenTheyReadEqual :
    Memory.wf 256 ([(0, 1), (255, 2)] : Memory 8) ∧ Memory.wf 300 ([(0, 1), (255, 2)] : Memory 8) := by decide

end Sys2Proof.Machine
end

section
/-! PROOF. The family 00_scope.md: the code map and the data tags (R14, R15), the profile table (R9 to R12), and the step as
the meaning of the next word on CMD (R8). -/

namespace Sys2Proof.Machine

/-! ### The code map -/

/-- `code(p, 1)` is the flip-dot data code (00_scope.md R14). -/
@[simp] theorem code_tagFlipDotColumnData (c : Config) (p : Profile) :
    code c p tagFlipDotColumnData = flipDotDataCode c p := rfl

/-- `code(p, 2)` is the LED data code (00_scope.md R14). -/
@[simp] theorem code_tagLedBitmapData (c : Config) (p : Profile) : code c p tagLedBitmapData = ledDataCode c p := rfl

/-- The reserved tags map to no code (00_scope.md R13, R14). -/
theorem code_of_three_le (c : Config) (p : Profile) {tag : BitVec 8} (h : 3 ≤ tag.toNat) : code c p tag = none := by
  have ne_of_small : ∀ t : BitVec 8, t.toNat < 3 → tag ≠ t := by
    rintro t ht rfl
    exact Nat.not_lt.mpr h ht
  unfold code
  rw [if_neg (ne_of_small tagInit (by decide)), if_neg (ne_of_small tagFlipDotColumnData (by decide)),
    if_neg (ne_of_small tagLedBitmapData (by decide))]

/-- Settles O13: tags 0, 1 and 2 select the three code columns, which are read off per profile; every other tag has no code. -/
theorem codeMapOfEveryProfile : Obligations.CodeMapOfEveryProfile := by
  intro c
  have init := code_tagInit c
  have flipDot := code_tagFlipDotColumnData c
  have led := code_tagLedBitmapData c
  exact ⟨init .fdLegacy, init .fdExt, init .led1, init .led2, init,
    flipDot .fdLegacy, flipDot .fdExt, flipDot .led1, flipDot .led2,
    led .fdLegacy, led .fdExt, led .led1, led .led2,
    fun p _ h => code_of_three_le c p h, rfl, rfl, rfl, rfl⟩

/-! ### The profile table of every configuration -/

/-- A profile packs 2 bits per pixel when it is a flip-dot profile and 1 bit otherwise (00_scope.md R12). -/
theorem packP_eq_ite (c : Config) (p : Profile) (ps : List Pixel) :
    packP c p ps = if p = .fdLegacy ∨ p = .fdExt then pack2 ps (c.ord.at p) else pack1 ps (c.ord.at p) := by
  cases p <;> rfl

/-! ### Legal OPEN parameters -/

/-- The constraints of 00_scope.md R10 and R11 as propositions. -/
theorem OpenParams.legal_iff (o : OpenParams) :
    o.legal = true ↔
      o.codeFdInit ≠ o.codeFdData ∧ o.codeLed1Data ≠ o.codeLed2Data
        ∧ o.codeLed1Init ≠ some o.codeLed1Data ∧ o.codeLed2Init ≠ some o.codeLed2Data
        ∧ o.tplFdLegacy.length = 6 ∧ o.tplLed1.length ≤ 16 ∧ o.tplLed2.length ≤ 16 := by
  simp only [OpenParams.legal, Bool.and_eq_true, decide_eq_true_eq, and_assoc]

theorem Config.legal_params {c : Config} (h : c.legal = true) : c.params.legal = true :=
  (Bool.and_eq_true_iff.mp h).2

/-- Within one profile of a legal configuration the init code and the data code differ (00_scope.md R10). -/
theorem initCode_ne_dataCode {c : Config} (h : c.legal = true) (p : Profile) : initCode c p ≠ dataCode c p := by
  obtain ⟨fd, -, led1, led2, -⟩ := (OpenParams.legal_iff c.params).mp (Config.legal_params h)
  have flipDot : some c.params.codeFdInit ≠ some c.params.codeFdData := mt Option.some.inj fd
  cases p with
  | fdLegacy => exact flipDot
  | fdExt => exact flipDot
  | led1 => exact led1
  | led2 => exact led2

/-- The data codes of the two LED profiles of a legal configuration differ (00_scope.md R10). -/
theorem dataCode_led1_ne_led2 {c : Config} (h : c.legal = true) : dataCode c .led1 ≠ dataCode c .led2 := by
  obtain ⟨-, led, -⟩ := (OpenParams.legal_iff c.params).mp (Config.legal_params h)
  exact mt Option.some.inj led

/-- The legacy template of a legal configuration has 6 bytes (00_scope.md R11). -/
theorem initPayload_fdLegacy_length {c : Config} (h : c.legal = true) : (initPayload c .fdLegacy).length = 6 := by
  obtain ⟨-, -, -, -, length, -⟩ := (OpenParams.legal_iff c.params).mp (Config.legal_params h)
  exact length

/-! ### The device at reset -/

@[simp] theorem State.reset_cfg : State.reset.cfg = Config.device := rfl

/-- The device at hand is legal whatever its OPEN parameters are (log 2). -/
theorem Config.device_legal : Config.device.legal = true :=
  Bool.and_eq_true_iff.mpr ⟨by decide, OpenParams.legal_legalised _⟩

/-- Only flip-dot data payloads end in a literal 0x00 (00_scope.md R12). -/
theorem Config.device_trail (p : Profile) : Config.device.trail.at p = decide (p = .fdLegacy ∨ p = .fdExt) := by
  cases p <;> rfl

/-- Flip-dot profiles are LSB first, LED profiles MSB first (00_scope.md R12). -/
theorem Config.device_ord (p : Profile) :
    Config.device.ord.at p = if p = .fdLegacy ∨ p = .fdExt then .lsbFirst else .msbFirst := by
  cases p <;> rfl

/-- No profile sends its init frame once per chunk (00_scope.md R12). -/
theorem Config.device_initPerChunk (p : Profile) : Config.device.initPerChunk.at p = false := by
  cases p <;> rfl

/-- Settles O57: the table's columns are read off per profile, and what is known of the reset device's OPEN parameters
follows from its configuration being legal. -/
theorem profileTableAtReset : Obligations.ProfileTableAtReset := by
  have legal := Config.device_legal
  refine ⟨⟨rfl, rfl, rfl, rfl⟩, fun c => ?everyConfig, State.reset.cfg, rfl, ?resetDevice⟩
  case everyConfig =>
    exact ⟨packP_eq_ite c, rfl, rfl, rfl, rfl, rfl, rfl, chunkHeight_cases c, rfl, rfl, rfl, rfl⟩
  case resetDevice =>
    rw [State.reset_cfg]
    exact ⟨rfl, rfl, Config.device_trail, Config.device_ord, Config.device_initPerChunk,
      initPayload_fdLegacy_length legal, initPayload_length_le legal, initCode_ne_dataCode legal,
      dataCode_led1_ne_led2 legal⟩

/-! ### The step -/

/-- An accepted word that decodes runs its command (30_encoding.md R100). -/
theorem accept_of_decode_ok {w : Word} {i : Instr} (h : decode w = .ok i) (s : State) : accept w s = exec i s := by
  simp only [accept, h]

/-- With no word on CMD a step answers its own state (log 4). -/
theorem step_of_cmd_nil {s : State} (h : s.cmd = []) : step s = .next s := by
  simp only [step, fetch_nil h, awaitCommand]

/-- A step accepts the next word on CMD (10_state.md R33). -/
theorem step_of_cmd_cons {s : State} {w : Word} {rest : List Word} (h : s.cmd = w :: rest) :
    step s = accept w (s.setCmd rest) := by
  simp only [step, fetch_cons h]

/-- Settles O48: the step accepts the word, and the accepted word runs the command it spells. -/
theorem stepRunsTheDecodedCommand : Obligations.StepRunsTheDecodedCommand := by
  refine ⟨fun s w rest i hcmd hdecode => ?_, fun s => step_of_cmd_nil⟩
  calc step s = accept w (s.setCmd rest) := step_of_cmd_cons hcmd
    _ = exec i (s.setCmd rest) := accept_of_decode_ok hdecode _

end Sys2Proof.Machine
end

section
/-! PROOF. What each command completes with, said once for all the rules about the whole machine (10_state.md R31 to R52,
60_exceptions.md R300, R302). -/

namespace Sys2Proof.Machine

/-- `Completes s i u`: the command `i` passes its checks in the state `s`, and `u` is what it leaves but for the response. -/
inductive Completes (s : State) : Instr → State → Prop
  | nop : Completes s .nop s
  | wreg {reg : BitVec 8} {r : Reg} {d : Datum} {u : State} (register : regOf reg = some r)
      (written : writeReg s d r = .ok u) : Completes s (.wreg reg d) u
  | rreg {reg : BitVec 8} {r : Reg} (register : regOf reg = some r) : Completes s (.rreg reg) s
  | wpix {row col : BitVec 8} {v : Pixel} (inside : pixelInside s row col = true) :
      Completes s (.wpix row col v) (s.storePixel (cellIndex s row col) v)
  | rpix {row col : BitVec 8} (inside : pixelInside s row col = true) : Completes s (.rpix row col) s
  | wpb {idx : BitVec 8} {byte : Byte} : Completes s (.wpb idx byte) (s.storePayload idx.toNat [byte])
  | rpb {idx : BitVec 8} : Completes s (.rpb idx) s
  | papp {imm : Byte} (room : s.plen.toNat ≠ pMax) : Completes s (.papp imm) (s.appendPayload [imm])
  | pclr : Completes s .pclr (s.setPlen 0)
  | srst : Completes s .srst s.softReset
  | aenc {tag adr : BitVec 8} {k : Nibble} (address : adr.toNat ≤ 15) (code : s.activeCode tag = some k) :
      Completes s (.aenc tag adr) (s.setCmdb (merge k (adr.extractLsb' 0 4)))
  | asplit {imm : Byte} : Completes s (.asplit imm) s
  | pack2 {row0 col : BitVec 8} {ord : BitOrder} {n : Nat} (column : col.toNat < s.width.toNat)
      (room : s.plen.toNat + (Machine.pack2 (sliceOperand s row0 col n) ord).length ≤ pMax) :
      Completes s (.pack2 row0 col ord n) (s.appendPayload (Machine.pack2 (sliceOperand s row0 col n) ord))
  | pack1 {row0 col : BitVec 8} {ord : BitOrder} {n : Nat} (column : col.toNat < s.width.toNat)
      (room : s.plen.toNat + (Machine.pack1 (sliceOperand s row0 col n) ord).length ≤ pMax) :
      Completes s (.pack1 row0 col ord n) (s.appendPayload (Machine.pack1 (sliceOperand s row0 col n) ord))
  | sbegin (session : sessionError s = none) : Completes s .sbegin s.startSession
  | snext (framer : s.fstate ≠ .opened) (session : s.sst = .active) : Completes s .snext s.sendNext
  | sabort : Completes s .sabort (s.setCursor .idle .init 0 0)
  | encbmp (session : sessionError s = none) :
      Completes s .encbmp (runSession (sessionLength s) s.startSession).1
  | encinit {k : Nibble} (framer : s.fstate ≠ .opened) (code : s.activeCode tagInit = some k) :
      Completes s .encinit (s.buildInit k).sendRaw
  | binit {k : Nibble} (code : s.activeCode tagInit = some k) : Completes s .binit (s.buildInit k)
  | bdata {chunk col : BitVec 8} {k : Nibble} (inside : outsideBitmap s chunk col = false)
      (code : dataCode s.cfg s.activeProfile = some k) :
      Completes s (.bdata chunk col) (s.loadRaw (merge k s.addr) (bitmapPayload s chunk col))
  | csinit (framer : s.fstate ≠ .opened) : Completes s .csinit (s.setAcc 0xFF)
  | csacc {imm : Byte} (framer : s.fstate ≠ .opened) : Completes s (.csacc imm) (s.setAcc (s.acc ^^^ imm))
  | csbuf (framer : s.fstate ≠ .opened) : Completes s .csbuf (s.setAcc (csum ([s.cmdb] ++ s.payload)))
  | fopen (framer : s.fstate ≠ .opened) :
      Completes s .fopen (((s.emit [marker]).setAcc 0xFF).setFstate .opened)
  | fput {imm : Byte} (framer : s.fstate ≠ .idle) :
      Completes s (.fput imm) ((s.emit (esc imm)).setAcc (s.acc ^^^ imm))
  | fclose (framer : s.fstate ≠ .idle) :
      Completes s .fclose ((s.emit (esc s.acc ++ [marker])).setFstate .idle)
  | fenc (framer : s.fstate ≠ .opened) (payload : ¬ (s.plen = 0 ∧ requiresData s s.cmdb = true)) :
      Completes s .fenc s.sendRaw

/-- A result of the command `i` in the state `s`: an error raised there, or what `i` completes with. -/
def EndsAs (i : Instr) (s : State) (r : Result) : Prop :=
  (∃ e, r = raise e s) ∨ ∃ d u, Completes s i u ∧ r = complete d u

theorem EndsAs.raise {i : Instr} {s : State} (e : CodecError) : EndsAs i s (raise e s) :=
  .inl ⟨e, rfl⟩

theorem EndsAs.complete {i : Instr} {s u : State} {d : Datum} (h : Completes s i u) : EndsAs i s (complete d u) :=
  .inr ⟨d, u, h, rfl⟩

theorem EndsAs.ite {i : Instr} {s : State} {p : Prop} [Decidable p] {a b : Result} (ha : p → EndsAs i s a)
    (hb : ¬ p → EndsAs i s b) : EndsAs i s (if p then a else b) := by
  split
  · exact ha ‹p›
  · exact hb ‹¬ p›

/-- A command that checks `p` and otherwise completes. -/
theorem EndsAs.unless {i : Instr} {s u : State} {p : Prop} [Decidable p] {e : CodecError} {d : Datum}
    (h : ¬ p → Completes s i u) : EndsAs i s (if p then Machine.raise e s else Machine.complete d u) :=
  .ite (fun _ => .raise e) fun hp => .complete (h hp)

/-- Every command raises an error in its own state or completes as `Completes` says: `exec_endsWell` with the state named. -/
theorem exec_endsAs (i : Instr) (s : State) : EndsAs i s (exec i s) := by
  cases i with
  | nop => exact .complete .nop
  | wreg reg d =>
    show EndsAs _ s (execWreg reg d s)
    unfold execWreg
    split
    · exact .raise _
    · next register =>
      split
      · exact .raise _
      · next written => exact .complete (.wreg register written)
  | rreg reg =>
    show EndsAs _ s (execRreg reg s)
    unfold execRreg
    split
    · exact .raise _
    · next register => exact .complete (.rreg register)
  | wpix row col v => exact .ite (fun h => .complete (.wpix h)) fun _ => .raise _
  | rpix row col => exact .ite (fun h => .complete (.rpix h)) fun _ => .raise _
  | wpb idx byte => exact .complete .wpb
  | rpb idx => exact .complete .rpb
  | papp imm => exact .unless .papp
  | pclr => exact .complete .pclr
  | srst => exact .complete .srst
  | aenc tag adr =>
    refine .ite (fun _ => .raise _) fun address => ?_
    split
    · exact .raise _
    · next code => exact .complete (.aenc (Nat.le_of_not_lt address) code)
  | asplit imm => exact .complete .asplit
  | pack2 row0 col ord n =>
    exact .ite (fun _ => .raise _) fun column =>
      .unless fun room => .pack2 (Nat.lt_of_not_le column) (Nat.le_of_not_lt room)
  | pack1 row0 col ord n =>
    exact .ite (fun _ => .raise _) fun column =>
      .unless fun room => .pack1 (Nat.lt_of_not_le column) (Nat.le_of_not_lt room)
  | sbegin =>
    show EndsAs _ s (execSbegin s)
    unfold execSbegin
    split
    · exact .raise _
    · next session => exact .complete (.sbegin session)
  | snext =>
    exact .unless fun h => .snext (fun framer => h (.inl framer)) (not_not.mp fun session => h (.inr session))
  | sabort => exact .complete .sabort
  | encbmp =>
    show EndsAs _ s (execEncbmp s)
    unfold execEncbmp
    split
    · exact .raise _
    · next session => exact .complete (.encbmp session)
  | encinit =>
    refine .ite (fun _ => .raise _) fun framer => ?_
    split
    · exact .raise _
    · next code => exact .complete (.encinit framer code)
  | binit =>
    show EndsAs _ s (execBinit s)
    unfold execBinit
    split
    · exact .raise _
    · next code => exact .complete (.binit code)
  | bdata chunk col =>
    refine .ite (fun _ => .raise _) fun inside => ?_
    split
    · exact .raise _
    · next code => exact .complete (.bdata (Bool.eq_false_iff.mpr inside) code)
  | csinit => exact .unless .csinit
  | csacc imm => exact .unless .csacc
  | csbuf => exact .unless .csbuf
  | fopen => exact .unless .fopen
  | fput imm => exact .unless .fput
  | fclose => exact .unless .fclose
  | fenc => exact .ite (fun _ => .raise _) fun framer => .unless (.fenc framer)

/-- All that a command can answer: its own state with an error's response, or what it completes with, status OK. -/
theorem exec_cases {i : Instr} {s t : State} (h : exec i s = .next t) :
    (∃ e : CodecError, t = s.respond e.code 0) ∨ ∃ d u, Completes s i u ∧ t = u.respond statusOk d := by
  rcases exec_endsAs i s with ⟨e, he⟩ | ⟨d, u, hu, hd⟩
  · exact .inl ⟨e, raise_eq_next.mp (he.symm.trans h)⟩
  · exact .inr ⟨d, u, hu, complete_eq_next.mp (hd.symm.trans h)⟩

end Sys2Proof.Machine
end

section
/-! PROOF. The family 10_state.md: which commands write TXLOG, FSTATE, the session's cursor and the shadows (R31, R33, R42,
R43, R46, R52), and the canonical form of the memories (log 8). -/

namespace Sys2Proof.Machine

variable {i : Instr} {s u : State}

/-! ### TX and the constants -/

/-- No command writes the parameters (10_state.md R52). -/
theorem Completes.cfg_eq (h : Completes s i u) : u.cfg = s.cfg := by
  cases h with
  | wreg _ written =>
    obtain ⟨cfg, -⟩ := writeReg_frame written
    exact cfg
  | snext => exact State.sendNext_cfg s
  | encbmp => exact runSession_field State.cfg State.sendNext_cfg _ _
  | _ => rfl

/-- No command writes the words to come on CMD (log 4, log 10). -/
theorem Completes.cmd_eq (h : Completes s i u) : u.cmd = s.cmd := by
  cases h with
  | wreg _ written =>
    obtain ⟨-, cmd, -⟩ := writeReg_frame written
    exact cmd
  | snext => exact State.sendNext_cmd s
  | encbmp => exact runSession_field State.cmd State.sendNext_cmd _ _
  | _ => rfl

/-- A run of SNEXT only appends to TXLOG (10_state.md R31). -/
theorem runSession_tx_grows (fuel : Nat) (s : State) : ∃ bytes, (runSession fuel s).1.tx = s.tx ++ bytes := by
  refine runSession_keeps (P := fun u => ∃ bytes, u.tx = s.tx ++ bytes) ?_ fuel s ⟨[], (List.append_nil _).symm⟩
  rintro u - ⟨bytes, grown⟩
  exact ⟨bytes ++ nextFrame u, by rw [State.sendNext_tx, grown, List.append_assoc]⟩

/-- TXLOG only grows (10_state.md R31). -/
theorem Completes.tx_grows (h : Completes s i u) : ∃ bytes, u.tx = s.tx ++ bytes := by
  cases h with
  | wreg _ written =>
    obtain ⟨-, -, tx, -⟩ := writeReg_frame written
    exact ⟨[], tx.trans (List.append_nil _).symm⟩
  | snext => exact ⟨_, State.sendNext_tx s⟩
  | encbmp => exact runSession_tx_grows _ s.startSession
  | encinit | fopen | fput | fclose | fenc => exact ⟨_, rfl⟩
  | _ => exact ⟨[], (List.append_nil _).symm⟩

/-- Only the framing commands emit (20_memory.md R70). -/
theorem Completes.tx_eq (h : Completes s i u) (silent : emitsBytes i = false) : u.tx = s.tx := by
  cases h with
  | wreg _ written =>
    obtain ⟨-, -, tx, -⟩ := writeReg_frame written
    exact tx
  | snext | encbmp | encinit | fopen | fput | fclose | fenc => cases silent
  | _ => rfl

/-- Settles O53: each part holds of what every command completes with, and the response touches none of it. -/
theorem txOnlyGrowsAndOnlyByFramingCommands : Obligations.TxOnlyGrowsAndOnlyByFramingCommands := by
  intro i s t h
  rcases exec_cases h with ⟨e, rfl⟩ | ⟨d, u, completed, rfl⟩
  · exact ⟨rfl, rfl, ⟨[], (List.append_nil s.tx).symm⟩, fun _ => rfl⟩
  · exact ⟨completed.cfg_eq, completed.cmd_eq, completed.tx_grows, completed.tx_eq⟩

/-! ### The framer, the cursor and the shadows -/

/-- Only FOPEN, FCLOSE and SRST write FSTATE (10_state.md R42). -/
theorem Completes.fstate_eq (h : Completes s i u) (keeps : writesFramer i = false) : u.fstate = s.fstate := by
  cases h with
  | wreg _ written =>
    obtain ⟨-, -, -, -, -, fstate, -⟩ := writeReg_frame written
    exact fstate
  | snext => exact State.sendNext_fstate s
  | encbmp => exact runSession_field State.fstate State.sendNext_fstate _ _
  | fopen | fclose | srst => cases keeps
  | _ => rfl

/-- Only the session commands and SRST write the session's state and cursor (10_state.md R33, R43). -/
theorem Completes.cursor_eq (h : Completes s i u) (keeps : writesCursor i = false) :
    u.sst = s.sst ∧ u.phase = s.phase ∧ u.cchunk = s.cchunk ∧ u.ccol = s.ccol := by
  cases h with
  | wreg _ written =>
    obtain ⟨-, -, -, -, -, -, sst, phase, cchunk, ccol, -⟩ := writeReg_frame written
    exact ⟨sst, phase, cchunk, ccol⟩
  | sbegin | snext | sabort | encbmp | srst => cases keeps
  | _ => exact ⟨rfl, rfl, rfl, rfl⟩

/-- Only SBEGIN, ENCBMP and SRST write the shadows (10_state.md R46). -/
theorem Completes.shadows_eq (h : Completes s i u) (keeps : writesShadows i = false) :
    u.sPid = s.sPid ∧ u.sAddr = s.sAddr ∧ u.sW = s.sW ∧ u.sH = s.sH := by
  cases h with
  | wreg _ written =>
    obtain ⟨-, -, -, -, -, -, -, -, -, -, sPid, sAddr, sW, sH, -⟩ := writeReg_frame written
    exact ⟨sPid, sAddr, sW, sH⟩
  | snext => exact ⟨State.sendNext_sPid s, State.sendNext_sAddr s, State.sendNext_sW s, State.sendNext_sH s⟩
  | sbegin | encbmp | srst => cases keeps
  | _ => exact ⟨rfl, rfl, rfl, rfl⟩

/-- Settles O55: each part holds of what every command completes with, and the response touches none of it. -/
theorem controlStateIsWrittenOnlyByItsCommands : Obligations.ControlStateIsWrittenOnlyByItsCommands := by
  intro i s t h
  rcases exec_cases h with ⟨e, rfl⟩ | ⟨d, u, completed, rfl⟩
  · exact ⟨fun _ => rfl, fun _ => ⟨rfl, rfl, rfl, rfl⟩, fun _ => ⟨rfl, rfl, rfl, rfl⟩⟩
  · exact ⟨completed.fstate_eq, completed.cursor_eq, completed.shadows_eq⟩

/-! ### The canonical form of a memory -/

/-- The cells a canonical memory lists are those that do not read 0, each with what it reads as (log 8). -/
theorem Memory.mem_iff_read {w size : Nat} {m : Memory w} (h : m.wf size) {c : Nat × BitVec w} :
    c ∈ m ↔ m.read c.1 = c.2 ∧ c.2 ≠ 0 := by
  obtain ⟨rising, listed⟩ := h
  constructor
  · exact fun hc => ⟨Memory.read_of_mem rising hc, (listed c hc).2⟩
  · rintro ⟨reads, nonzero⟩
    by_contra absent
    have unlisted : ∀ d ∈ m, d.1 ≠ c.1 := fun d hd same =>
      absent (Prod.ext same ((Memory.read_of_mem rising hd).symm.trans (same ▸ reads)) ▸ hd)
    exact nonzero (reads.symm.trans (Memory.read_of_not_listed unlisted))

/-- Settles O60: memories that read equal list the same cells, and a strictly rising list is known by its members. -/
theorem canonicalMemoriesAreEqualWhenTheyReadEqual : Obligations.CanonicalMemoriesAreEqualWhenTheyReadEqual := by
  intro w size size' m m' h h' same
  have members : ∀ c, c ∈ m ↔ c ∈ m' := fun c => by
    rw [Memory.mem_iff_read h, Memory.mem_iff_read h', same]
  have asymm : Std.Asymm fun c d : Nat × BitVec w => c.1 < d.1 := ⟨fun _ _ => Nat.lt_asymm⟩
  exact h.1.eq_of_mem_iff h'.1 members

end Sys2Proof.Machine
end

section
/-! PROOF. The invariant of every reachable state: what each operation and each command keeps of it (10_state.md R35 to R48,
60_exceptions.md R302). -/

namespace Sys2Proof.Machine

variable {s : State}

/-! ### The session's part -/

theorem State.sessionInv_idle (h : s.sst = .idle) : s.SessionInv ↔ s.phase = .init ∧ s.cchunk = 0 ∧ s.ccol = 0 := by
  simp only [State.SessionInv, h]

theorem State.sessionInv_active (h : s.sst = .active) :
    s.SessionInv ↔ 0 < s.sW.toNat ∧ 0 < s.sH.toNat
      ∧ (initCode s.cfg s.sessionProfile).isSome ∧ (dataCode s.cfg s.sessionProfile).isSome
      ∧ s.cchunk.toNat < chunksOf s.cfg s.sessionProfile s.sH.toNat ∧ s.ccol.toNat < s.sW.toNat
      ∧ (s.phase = .init → s.ccol = 0 ∧ (s.cchunk = 0 ∨ s.cfg.initPerChunk.at s.sessionProfile = true)) := by
  simp only [State.SessionInv, h]

theorem State.sessionInv_done (h : s.sst = .done) :
    s.SessionInv ↔ s.phase = .data ∧ s.cchunk.toNat = chunksOf s.cfg s.sessionProfile s.sH.toNat ∧ s.ccol = 0 := by
  simp only [State.SessionInv, h]

/-- An active session stands at a frame of its plan. -/
theorem State.Inv.atFrame (h : s.Inv) (active : s.sst = .active) : s.AtFrame := by
  obtain ⟨-, -, -, -, chunk, col, -⟩ := (State.sessionInv_active active).mp h.session
  obtain ⟨-, wMax, -, hMax⟩ := Config.legal_bounds h.config
  exact { chunk, col, chunks := chunksOf_le _ _ (h.shadowHeight.trans hMax), cols := h.shadowWidth.trans wMax }

/-! ### The operations on the state -/

theorem State.Inv.respond (h : s.Inv) {status : BitVec 3} {data : Datum} (response : status ≠ 0 → data = 0) :
    (s.respond status data).Inv :=
  { h with response }

theorem State.Inv.emit (h : s.Inv) (bytes : List Byte) : (s.emit bytes).Inv := { h with }

theorem State.Inv.setAcc (h : s.Inv) (v : Byte) : (s.setAcc v).Inv := { h with }

theorem State.Inv.setCmdb (h : s.Inv) (v : Byte) : (s.setCmdb v).Inv := { h with }

theorem State.Inv.setFstate (h : s.Inv) (f : FramerState) : (s.setFstate f).Inv := { h with }

theorem State.Inv.setProfile (h : s.Inv) (pvalid : BitVec 1) (pid : BitVec 2) : (s.setProfile pvalid pid).Inv := { h with }

theorem State.Inv.setAddr (h : s.Inv) (a : Nibble) : (s.setAddr a).Inv := { h with }

theorem State.Inv.setCmd (h : s.Inv) (ws : List Word) : (s.setCmd ws).Inv := { h with }

theorem State.Inv.setWidth (h : s.Inv) {v : BitVec 9} (width : v.toNat ≤ s.cfg.wMax) : (s.setWidth v).Inv :=
  { h with width }

theorem State.Inv.setHeight (h : s.Inv) {v : BitVec 9} (height : v.toNat ≤ s.cfg.hMax) : (s.setHeight v).Inv :=
  { h with height }

theorem State.Inv.setPlen (h : s.Inv) {n : Nat} (hn : n ≤ pMax) : (s.setPlen n).Inv :=
  { h with plen := (BitVec.toNat_ofNat n 9).trans_le ((Nat.mod_le _ _).trans hn) }

theorem State.Inv.storePayload (h : s.Inv) {base : Nat} {bytes : List Byte} (room : base + bytes.length ≤ pMax) :
    (s.storePayload base bytes).Inv :=
  { h with pbuf := Memory.wf_writeList h.pbuf base bytes room }

theorem State.Inv.storePixel (h : s.Inv) {a : Nat} (inside : a < pixBits s.cfg) (v : Pixel) : (s.storePixel a v).Inv :=
  { h with pix := Memory.wf_write h.pix inside v }

theorem State.Inv.setCursor (h : s.Inv) {sst : SessionState} {phase : Phase} {chunk col : Nat}
    (session : (s.setCursor sst phase chunk col).SessionInv) : (s.setCursor sst phase chunk col).Inv :=
  { h with session }

theorem State.Inv.softReset (h : s.Inv) : s.softReset.Inv where
  config := h.config
  width := Nat.zero_le _
  height := Nat.zero_le _
  plen := Nat.zero_le _
  pbuf := Memory.wf_nil _
  pix := Memory.wf_nil _
  shadowWidth := Nat.zero_le _
  shadowHeight := Nat.zero_le _
  session := (State.sessionInv_idle rfl).mpr ⟨rfl, rfl, rfl⟩
  response := fun _ => rfl

/-! ### Frames and payloads -/

theorem State.Inv.loadRaw (h : s.Inv) {pl : List Byte} (cmd : Byte) (fits : pl.length ≤ pMax) : (s.loadRaw cmd pl).Inv :=
  ((h.setCmdb cmd).storePayload (by omega)).setPlen fits

theorem State.Inv.appendPayload (h : s.Inv) {bytes : List Byte} (room : s.plen.toNat + bytes.length ≤ pMax) :
    (s.appendPayload bytes).Inv :=
  (h.storePayload room).setPlen room

theorem State.Inv.sendFrame (h : s.Inv) (cmd : Byte) (pl : List Byte) : (s.sendFrame cmd pl).Inv :=
  (h.emit _).setAcc _

/-- An init template fits PBUF (00_scope.md R11). -/
theorem State.Inv.buildInit (h : s.Inv) (k : Nibble) : (s.buildInit k).Inv :=
  h.loadRaw _ ((initPayload_length_le h.config _).trans (by decide))

/-- A pixel operand that passes its check names a cell of PIX (20_memory.md R71). -/
theorem State.Inv.cellIndex_lt (h : s.Inv) {row col : BitVec 8} (inside : pixelInside s row col = true) :
    cellIndex s row col < pixBits s.cfg := by
  obtain ⟨hrow, hcol⟩ : row.toNat < s.height.toNat ∧ col.toNat < s.width.toNat := by
    simpa only [pixelInside, Bool.and_eq_true, decide_eq_true_eq] using inside
  calc row.toNat * s.width.toNat + col.toNat
      < (row.toNat + 1) * s.width.toNat := by rw [Nat.succ_mul]; omega
    _ ≤ s.cfg.hMax * s.cfg.wMax := Nat.mul_le_mul (Nat.le_trans hrow h.height) h.width
    _ = pixBits s.cfg := Nat.mul_comm _ _

/-! ### Register writes -/

theorem checkedWrite_eq_ok {d : Datum} {largest : Nat} {e : CodecError} {t u : State} :
    checkedWrite d largest e t = .ok u ↔ d.toNat ≤ largest ∧ u = t := by
  unfold checkedWrite
  split
  · next above => exact ⟨nofun, fun ⟨le, _⟩ => absurd above (Nat.not_lt_of_le le)⟩
  · next within => exact ⟨fun h => ⟨Nat.le_of_not_lt within, (Except.ok.inj h).symm⟩, fun ⟨_, same⟩ => same ▸ rfl⟩

/-- The low bits of a datum are no larger than the datum. -/
theorem datum_low_toNat_le (d : Datum) (n : Nat) : (d.extractLsb' 0 n).toNat ≤ d.toNat := by
  rw [BitVec.extractLsb'_toNat, Nat.shiftRight_zero]
  exact Nat.mod_le _ _

/-- A register write that passes its check keeps the invariant (46_host_access.md R272). -/
theorem State.Inv.of_writeReg (h : s.Inv) {d : Datum} {r : Reg} {t : State} (written : writeReg s d r = .ok t) : t.Inv := by
  cases r with
  | profile => cases written; exact h.setProfile _ _
  | acc => cases written; exact h.setAcc _
  | cmdb => cases written; exact h.setCmdb _
  | addr => obtain ⟨-, rfl⟩ := checkedWrite_eq_ok.mp written; exact h.setAddr _
  | width =>
    obtain ⟨le, rfl⟩ := checkedWrite_eq_ok.mp written
    exact h.setWidth ((datum_low_toNat_le d 9).trans le)
  | height =>
    obtain ⟨le, rfl⟩ := checkedWrite_eq_ok.mp written
    exact h.setHeight ((datum_low_toNat_le d 9).trans le)
  | plen => obtain ⟨le, rfl⟩ := checkedWrite_eq_ok.mp written; exact h.setPlen le
  | fstate | session | cchunk | ccol | sPid | sAddr | sW | sH => cases written

/-! ### The session commands -/

/-- A chain of checks finds no error when its first check passes and the rest find none. -/
theorem ite_some_eq_none {α : Type} {p : Prop} [Decidable p] {e : α} {rest : Option α} :
    (if p then some e else rest) = none ↔ ¬ p ∧ rest = none := by
  split
  · next fails => exact ⟨nofun, fun ⟨passes, _⟩ => absurd fails passes⟩
  · next passes => exact ⟨fun h => ⟨passes, h⟩, And.right⟩

/-- What SBEGIN and ENCBMP check (43_chunk_planner.md R183). -/
theorem sessionError_eq_none :
    sessionError s = none ↔ s.fstate ≠ .opened ∧ s.pvalid ≠ 0 ∧ s.width ≠ 0 ∧ s.height ≠ 0
      ∧ (initCode s.cfg s.activeProfile).isSome ∧ (dataCode s.cfg s.activeProfile).isSome := by
  simp only [sessionError, ite_some_eq_none, not_or, and_assoc, and_true, Bool.not_eq_true, Option.isNone_eq_false_iff]

/-- A session that may start stands at its first frame, with bounds latched from the configuration. -/
theorem State.Inv.startSession (h : s.Inv) (checked : sessionError s = none) : s.startSession.Inv := by
  obtain ⟨-, -, width, height, init, data⟩ := sessionError_eq_none.mp checked
  have wpos : 0 < s.width.toNat := BitVec.toNat_pos_of_ne_zero width
  have hpos : 0 < s.height.toNat := BitVec.toNat_pos_of_ne_zero height
  exact { h with
    shadowWidth := h.width
    shadowHeight := h.height
    session := (State.sessionInv_active rfl).mpr
      ⟨wpos, hpos, init, data, chunksOf_pos _ _ hpos, wpos, fun _ => ⟨rfl, .inl rfl⟩⟩ }

/-- A number that fits the 8 bits of CCHUNK and CCOL is read back as it was written (10_state.md R44, R45). -/
theorem cursor_toNat {n : Nat} (h : n < 256) : (BitVec.ofNat 8 n).toNat = n :=
  (BitVec.toNat_ofNat n 8).trans (Nat.mod_eq_of_lt h)

/-- An active session may move its cursor to any frame of its plan. -/
theorem State.Inv.moveCursor (h : s.Inv) (active : s.sst = .active) {phase : Phase} {chunk col : Nat}
    (hchunk : chunk < chunksOf s.cfg s.sessionProfile s.sH.toNat) (hcol : col < s.sW.toNat)
    (atInit : phase = .init → col = 0 ∧ (chunk = 0 ∨ s.cfg.initPerChunk.at s.sessionProfile = true)) :
    (s.setCursor .active phase chunk col).Inv := by
  obtain ⟨width, height, init, data, -⟩ := (State.sessionInv_active active).mp h.session
  obtain ⟨-, -, chunks, cols⟩ := h.atFrame active
  have chunk_eq : (BitVec.ofNat 8 chunk).toNat = chunk := cursor_toNat (by omega)
  have col_eq : (BitVec.ofNat 8 col).toNat = col := cursor_toNat (by omega)
  refine h.setCursor ((State.sessionInv_active rfl).mpr
    ⟨width, height, init, data, chunk_eq.trans_lt hchunk, col_eq.trans_lt hcol, fun hp => ?_⟩)
  obtain ⟨rfl, first | perChunk⟩ := atInit hp
  · subst first
    exact ⟨rfl, .inl rfl⟩
  · exact ⟨rfl, .inr perChunk⟩

/-- The cursor's advance stays inside the session or ends it (43_chunk_planner.md R184). -/
theorem State.Inv.advance (h : s.Inv) (active : s.sst = .active) : s.advance.Inv := by
  obtain ⟨width, -⟩ := (State.sessionInv_active active).mp h.session
  obtain ⟨chunk, col, chunks, -⟩ := h.atFrame active
  cases phase : s.phase with
  | init =>
    have moved : s.advance = s.setCursor .active .data s.cchunk.toNat s.ccol.toNat := by
      simp only [State.advance, phase, State.afterInitFrame, active]
    exact moved ▸ h.moveCursor active chunk col nofun
  | data =>
    have moved : s.advance = s.afterDataFrame := by simp only [State.advance, phase]
    rw [moved]
    rcases State.afterDataFrame_cases s with ⟨more, e⟩ | ⟨-, last, e⟩ | ⟨-, notLast, perChunk, e⟩ | ⟨-, notLast, -, e⟩ <;>
      simp only [active, phase] at e <;> rw [e]
    · exact h.moveCursor active chunk more nofun
    · refine h.setCursor ((State.sessionInv_done rfl).mpr ⟨rfl, ?_, rfl⟩)
      exact (cursor_toNat (by omega)).trans last
    · exact h.moveCursor active (by omega) width fun _ => ⟨rfl, .inr perChunk⟩
    · exact h.moveCursor active (by omega) width nofun

/-- One SNEXT keeps the invariant (43_chunk_planner.md R184, R185). -/
theorem State.Inv.sendNext (h : s.Inv) (active : s.sst = .active) : s.sendNext.Inv :=
  ((h.loadRaw _ ((nextPayload_length_le h.config).trans (by decide))).sendFrame _ _).advance active

/-! ### Commands and steps -/

/-- What a command completes with meets the invariant. -/
theorem State.Inv.of_completes (h : s.Inv) {i : Instr} {u : State} (completed : Completes s i u) : u.Inv := by
  cases completed with
  | nop | rreg | rpix | rpb | asplit => exact h
  | wreg _ written => exact h.of_writeReg written
  | wpix inside => exact h.storePixel (h.cellIndex_lt inside) _
  | @wpb idx byte => exact h.storePayload (Nat.succ_le_of_lt idx.isLt)
  | papp room => exact h.appendPayload (Nat.lt_of_le_of_ne h.plen room)
  | pclr => exact h.setPlen (Nat.zero_le _)
  | srst => exact h.softReset
  | aenc => exact h.setCmdb _
  | pack2 _ room | pack1 _ room => exact h.appendPayload room
  | sbegin checked => exact h.startSession checked
  | snext _ active => exact h.sendNext active
  | sabort => exact h.setCursor ((State.sessionInv_idle rfl).mpr ⟨rfl, rfl, rfl⟩)
  | encbmp checked =>
    exact runSession_keeps (fun _ active hu => State.Inv.sendNext hu active) _ _ (h.startSession checked)
  | encinit => exact (h.buildInit _).sendFrame _ _
  | binit => exact h.buildInit _
  | bdata => exact h.loadRaw _ ((dataPayload_length_le ..).trans (by decide))
  | csinit | csacc | csbuf => exact h.setAcc _
  | fopen => exact ((h.emit _).setAcc _).setFstate _
  | fput => exact (h.emit _).setAcc _
  | fclose => exact (h.emit _).setFstate _
  | fenc => exact h.sendFrame _ _

/-- An error keeps the invariant: it changes the response alone, to an answer of 0 (60_exceptions.md R302). -/
theorem State.Inv.respond_error (h : s.Inv) (e : CodecError) : (s.respond e.code 0).Inv :=
  h.respond fun _ => rfl

/-- Every command keeps the invariant. -/
theorem State.Inv.of_exec (h : s.Inv) {i : Instr} {t : State} (ht : exec i s = .next t) : t.Inv := by
  rcases exec_cases ht with ⟨e, rfl⟩ | ⟨d, u, completed, rfl⟩
  · exact h.respond_error e
  · exact (h.of_completes completed).respond fun nonzero => absurd rfl nonzero

/-- An accepted word that spells no command raises IllegalCommand (30_encoding.md R105, R106). -/
theorem accept_of_decode_error {w : Word} {e : DecodeError} (h : decode w = .error e) (s : State) :
    accept w s = raise .illegalCommand s := by
  simp only [accept, h]

/-- Every accepted word keeps the invariant. -/
theorem State.Inv.of_accept (h : s.Inv) {w : Word} {t : State} (ht : accept w s = .next t) : t.Inv := by
  cases hw : decode w with
  | ok i => exact h.of_exec ((accept_of_decode_ok hw s).symm.trans ht)
  | error e => exact raise_eq_next.mp ((accept_of_decode_error hw s).symm.trans ht) ▸ h.respond_error _

/-- Settles O59: a step answers its own state, or accepts a word in the state that CMD has delivered it from. -/
theorem everyStepKeepsTheInvariant : Obligations.EveryStepKeepsTheInvariant := by
  intro s t h ht
  rcases step_cases s with ⟨-, idle⟩ | ⟨w, rest, -, accepted⟩
  · cases idle.symm.trans ht
    exact h
  · exact (h.setCmd rest).of_accept (accepted.symm.trans ht)

end Sys2Proof.Machine
end

section
/-! PROOF. The family 20_memory.md: which commands write the configuration, the memories PIX and PBUF, and the codec's registers
PLEN, CMDB and ACC (10_state.md R34 to R41, 20_memory.md R70). -/

namespace Sys2Proof.Machine

variable {i : Instr} {s u : State}

/-- A run of SNEXT leaves the configuration alone: a session works from its shadows (10_state.md R46). -/
theorem runSession_configuration (fuel : Nat) (s : State) :
    (runSession fuel s).1.pid = s.pid ∧ (runSession fuel s).1.pvalid = s.pvalid ∧ (runSession fuel s).1.addr = s.addr
      ∧ (runSession fuel s).1.width = s.width ∧ (runSession fuel s).1.height = s.height :=
  ⟨runSession_field State.pid State.sendNext_pid fuel s, runSession_field State.pvalid State.sendNext_pvalid fuel s,
    runSession_field State.addr State.sendNext_addr fuel s, runSession_field State.width State.sendNext_width fuel s,
    runSession_field State.height State.sendNext_height fuel s⟩

/-- Only WREG and SRST write PROFILE, ADDR, WIDTH and HEIGHT (10_state.md R34 to R37). -/
theorem Completes.configuration_eq (h : Completes s i u) (keeps : writesConfiguration i = false) :
    u.pid = s.pid ∧ u.pvalid = s.pvalid ∧ u.addr = s.addr ∧ u.width = s.width ∧ u.height = s.height := by
  cases h with
  | wreg | srst => cases keeps
  | snext =>
    exact ⟨State.sendNext_pid s, State.sendNext_pvalid s, State.sendNext_addr s, State.sendNext_width s,
      State.sendNext_height s⟩
  | encbmp => exact runSession_configuration _ s.startSession
  | _ => simp [State.buildInit, State.sendRaw]

/-- Only WPIX and SRST write PIX (20_memory.md R70). -/
theorem Completes.pix_eq (h : Completes s i u) (keeps : writesPixels i = false) : u.pix = s.pix := by
  cases h with
  | wreg _ written =>
    obtain ⟨-, -, -, pix, -⟩ := writeReg_frame written
    exact pix
  | wpix | srst => cases keeps
  | snext => exact State.sendNext_pix s
  | encbmp => exact runSession_field State.pix State.sendNext_pix _ s.startSession
  | _ => simp [State.buildInit, State.sendRaw]

/-- Only the commands that store payload bytes and SRST write PBUF: PCLR and WREG of PLEN keep its bytes (20_memory.md R70). -/
theorem Completes.pbuf_eq (h : Completes s i u) (keeps : writesPayload i = false) : u.pbuf = s.pbuf := by
  cases h with
  | wreg _ written =>
    obtain ⟨-, -, -, -, pbuf, -⟩ := writeReg_frame written
    exact pbuf
  | wpb | papp | srst | pack2 | pack1 | snext | encbmp | encinit | binit | bdata => cases keeps
  | _ => rfl

/-- WPB stores a byte and keeps PLEN; the commands that build a payload, PCLR, WREG and SRST write it (10_state.md R40). -/
theorem Completes.plen_eq (h : Completes s i u) (keeps : writesPayloadLength i = false) : u.plen = s.plen := by
  cases h with
  | wreg | papp | pclr | srst | pack2 | pack1 | snext | encbmp | encinit | binit | bdata => cases keeps
  | _ => rfl

/-- FENC and the hand-built frame read CMDB or pass it by; AENC, the frame builders, WREG and SRST write it (10_state.md R39). -/
theorem Completes.cmdb_eq (h : Completes s i u) (keeps : writesCommandByte i = false) : u.cmdb = s.cmdb := by
  cases h with
  | wreg | srst | aenc | snext | encbmp | encinit | binit | bdata => cases keeps
  | _ => rfl

/-- FCLOSE emits the checksum and keeps it in ACC; the other framing commands, WREG and SRST write ACC (10_state.md R38). -/
theorem Completes.acc_eq (h : Completes s i u) (keeps : writesAccumulator i = false) : u.acc = s.acc := by
  cases h with
  | wreg | srst | snext | encbmp | encinit | csinit | csacc | csbuf | fopen | fput | fenc => cases keeps
  | _ => simp [State.buildInit]

/-- Settles O54: each part holds of what every command completes with, and the response touches none of it. The cells of a
memory read as before because the memory itself is unchanged. -/
theorem codecStateIsWrittenOnlyByItsCommands : Obligations.CodecStateIsWrittenOnlyByItsCommands := by
  intro i s t h
  rcases exec_cases h with ⟨e, rfl⟩ | ⟨d, u, completed, rfl⟩
  · exact ⟨fun _ => ⟨rfl, rfl, rfl, rfl, rfl⟩, fun _ _ => rfl, fun _ _ => rfl, fun _ => rfl, fun _ => rfl, fun _ => rfl⟩
  · exact ⟨completed.configuration_eq,
      fun keeps a => congrArg (Memory.read · a) (completed.pix_eq keeps),
      fun keeps a => congrArg (Memory.read · a) (completed.pbuf_eq keeps),
      completed.plen_eq, completed.cmdb_eq, completed.acc_eq⟩

end Sys2Proof.Machine
end

section
/-! PROOF. The family 30_encoding.md: the encoder and the decoder are inverse to each other (R100 to R103), the opcode map
says which words spell a command (R103, R104), and every other word is illegal (R105, R106). -/

namespace Sys2Proof.Machine

/-! ### The word of a command -/

/-- The command has a word, and `w` is it (30_encoding.md R101). -/
def IsWordOf (w : Word) (i : Instr) : Prop :=
  i.wellFormed = true ∧ encode i = w

/-- The fields of a word determine it. -/
theorem wordOfBytes_eq {w : Word} {a3 a2 a1 a0 : BitVec 8} (h3 : opField w = a3) (h2 : field23to16 w = a2)
    (h1 : field15to8 w = a1) (h0 : field7to0 w = a0) : wordOfBytes a3 a2 a1 a0 = w := by
  subst h3 h2 h1 h0
  exact wordOfBytes_fields w

/-- A word of format RG is made of OP, REG and DATA16 (30_encoding.md R101). -/
theorem regWord_eq {w : Word} {op : BitVec 8} (h : opField w = op) : op ++ field23to16 w ++ data16Field w = w := by
  subst h
  have high : opField w ++ field23to16 w = w.extractLsb' 16 16 := BitVec.extractLsb'_append_extractLsb'_eq_extractLsb' rfl
  rw [high]
  exact (BitVec.extractLsb'_append_extractLsb'_eq_extractLsb' rfl).trans BitVec.extractLsb'_eq_self

/-- A word of format PX ends in V when its reserved bits are zero (30_encoding.md R101). -/
theorem pixelWord_eq {w : Word} {op : BitVec 8} (h : opField w = op) (reserved : w.extractLsb' 1 7 = 0) :
    wordOfBytes op (field23to16 w) (field15to8 w) (pixelByte (pixelField w)) = w := by
  have low : w.extractLsb' 1 7 ++ pixelField w = field7to0 w := BitVec.extractLsb'_append_extractLsb'_eq_extractLsb' rfl
  exact wordOfBytes_eq h rfl rfl (by rw [pixelByte, ← reserved, low])

theorem ordBit_ordField (w : Word) : ordBit (ordField w) = w.extractLsb' 7 1 := by
  obtain zero | one := BitVec.eq_zero_or_eq_one (w.extractLsb' 7 1)
  · simp [ordField, ordBit, zero]
  · simp [ordField, ordBit, one]

theorem sliceLengthField_lt (w : Word) : sliceLengthField w < 128 :=
  (w.extractLsb' 0 7).isLt

/-- A word of format S ends in ORD and N (30_encoding.md R101). -/
theorem sliceWord_eq {w : Word} {op : BitVec 8} (h : opField w = op) :
    wordOfBytes op (field23to16 w) (field15to8 w) (sliceByte (ordField w) (sliceLengthField w)) = w := by
  have low : w.extractLsb' 7 1 ++ w.extractLsb' 0 7 = field7to0 w := BitVec.extractLsb'_append_extractLsb'_eq_extractLsb' rfl
  refine wordOfBytes_eq h rfl rfl ?_
  rw [sliceByte, ordBit_ordField, sliceLengthField, BitVec.ofNat_toNat, BitVec.setWidth_eq, low]

/-! ### Every well-formed command decodes from its word -/

/-- The decoder reads the OP byte and the operands back from where the encoder wrote them, and finds the rest zero. -/
theorem decode_encode {i : Instr} (h : i.wellFormed = true) : decode (encode i) = .ok i := by
  cases i with
  | pack2 row0 col ord n | pack1 row0 col ord n =>
    simp [decode, encode, opcode, sliceLengthField_sliceByte _ _ _ _ (of_decide_eq_true h)]
  | wreg reg data => simp [decode, encode, opcode]
  | rreg reg => simp [decode, encode, opcode, formatRegOnly, whenZero]
  | wpix row col v => simp [decode, encode, opcode, formatPixel, whenZero]
  | rpix | bdata => simp [decode, encode, opcode, formatRowCol, whenZero]
  | wpb | aenc => simp [decode, encode, opcode, formatTwoBytes, whenZero]
  | rpb idx => simp [decode, encode, opcode, formatIndexOnly, whenZero]
  | papp | asplit | csacc | fput => simp [decode, encode, opcode, formatB, whenZero]
  | _ => simp [decode, encode, opcode, formatN, whenZero]

/-! ### A word that decodes is the word of its command

One lemma per format: what the format answers is a command whose word is `w`, when `c` is the OP byte of `w`. -/

section
variable {w : Word} {i : Instr}

/-- A format answers its command exactly when its reserved bits are zero (30_encoding.md R106). -/
theorem whenZero_decide_eq_ok {reserved : Prop} [Decidable reserved] {j : Instr} :
    whenZero (decide reserved) i = .ok j ↔ reserved ∧ j = i :=
  whenZero_eq_ok.trans (and_congr_left' decide_eq_true_iff)

theorem IsWordOf.of_eq {w' : Word} (h : IsWordOf w' i) (e : w' = w) : IsWordOf w i :=
  e ▸ h

theorem formatN_isWordOf {j : Instr} (c : BitVec 8) (op : (opField w).toNat = c.toNat)
    (word : IsWordOf (wordOfBytes c 0 0 0) j) (h : formatN w j = .ok i) : IsWordOf w i := by
  obtain ⟨⟨b2, b1, b0⟩, rfl⟩ := whenZero_decide_eq_ok.mp h
  exact word.of_eq (wordOfBytes_eq (BitVec.eq_of_toNat_eq op) b2 b1 b0)

theorem formatB_isWordOf {f : Byte → Instr} (c : BitVec 8) (op : (opField w).toNat = c.toNat)
    (word : ∀ b, IsWordOf (wordOfBytes c 0 0 b) (f b)) (h : formatB w f = .ok i) : IsWordOf w i := by
  obtain ⟨⟨b2, b1⟩, rfl⟩ := whenZero_decide_eq_ok.mp h
  exact (word _).of_eq (wordOfBytes_eq (BitVec.eq_of_toNat_eq op) b2 b1 rfl)

theorem formatTwoBytes_isWordOf {f : BitVec 8 → BitVec 8 → Instr} (c : BitVec 8) (op : (opField w).toNat = c.toNat)
    (word : ∀ a b, IsWordOf (wordOfBytes c 0 a b) (f a b)) (h : formatTwoBytes w f = .ok i) : IsWordOf w i := by
  obtain ⟨b2, rfl⟩ := whenZero_decide_eq_ok.mp h
  exact (word _ _).of_eq (wordOfBytes_eq (BitVec.eq_of_toNat_eq op) b2 rfl rfl)

theorem formatRowCol_isWordOf {f : BitVec 8 → BitVec 8 → Instr} (c : BitVec 8) (op : (opField w).toNat = c.toNat)
    (word : ∀ a b, IsWordOf (wordOfBytes c a b 0) (f a b)) (h : formatRowCol w f = .ok i) : IsWordOf w i := by
  obtain ⟨b0, rfl⟩ := whenZero_decide_eq_ok.mp h
  exact (word _ _).of_eq (wordOfBytes_eq (BitVec.eq_of_toNat_eq op) rfl rfl b0)

theorem formatRegOnly_isWordOf (op : (opField w).toNat = 0x02) (h : formatRegOnly w .rreg = .ok i) : IsWordOf w i := by
  obtain ⟨⟨b1, b0⟩, rfl⟩ := whenZero_decide_eq_ok.mp h
  exact ⟨rfl, wordOfBytes_eq (BitVec.eq_of_toNat_eq op) rfl b1 b0⟩

theorem formatPixel_isWordOf (op : (opField w).toNat = 0x03) (h : formatPixel w .wpix = .ok i) : IsWordOf w i := by
  obtain ⟨reserved, rfl⟩ := whenZero_decide_eq_ok.mp h
  exact ⟨rfl, pixelWord_eq (BitVec.eq_of_toNat_eq op) reserved⟩

theorem formatIndexOnly_isWordOf (op : (opField w).toNat = 0x06) (h : formatIndexOnly w .rpb = .ok i) : IsWordOf w i := by
  obtain ⟨⟨b2, b0⟩, rfl⟩ := whenZero_decide_eq_ok.mp h
  exact ⟨rfl, wordOfBytes_eq (BitVec.eq_of_toNat_eq op) b2 rfl b0⟩

/-- What the decoder answers for each OP byte of the opcode map has `w` as its word (30_encoding.md R103). -/
theorem isWordOf_of_decode (h : decode w = .ok i) : IsWordOf w i := by
  unfold decode at h
  split at h
  · next op => exact formatN_isWordOf 0x00 op ⟨rfl, rfl⟩ h
  · next op => exact Except.ok.inj h ▸ ⟨rfl, regWord_eq (BitVec.eq_of_toNat_eq op)⟩
  · next op => exact formatRegOnly_isWordOf op h
  · next op => exact formatPixel_isWordOf op h
  · next op => exact formatRowCol_isWordOf 0x04 op (fun _ _ => ⟨rfl, rfl⟩) h
  · next op => exact formatTwoBytes_isWordOf 0x05 op (fun _ _ => ⟨rfl, rfl⟩) h
  · next op => exact formatIndexOnly_isWordOf op h
  · next op => exact formatB_isWordOf 0x07 op (fun _ => ⟨rfl, rfl⟩) h
  · next op => exact formatN_isWordOf 0x08 op ⟨rfl, rfl⟩ h
  · next op => exact formatN_isWordOf 0x0F op ⟨rfl, rfl⟩ h
  · next op => exact formatTwoBytes_isWordOf 0x10 op (fun _ _ => ⟨rfl, rfl⟩) h
  · next op => exact formatB_isWordOf 0x11 op (fun _ => ⟨rfl, rfl⟩) h
  · next op => exact Except.ok.inj h ▸ ⟨decide_eq_true (sliceLengthField_lt w), sliceWord_eq (BitVec.eq_of_toNat_eq op)⟩
  · next op => exact Except.ok.inj h ▸ ⟨decide_eq_true (sliceLengthField_lt w), sliceWord_eq (BitVec.eq_of_toNat_eq op)⟩
  · next op => exact formatN_isWordOf 0x30 op ⟨rfl, rfl⟩ h
  · next op => exact formatN_isWordOf 0x31 op ⟨rfl, rfl⟩ h
  · next op => exact formatN_isWordOf 0x32 op ⟨rfl, rfl⟩ h
  · next op => exact formatN_isWordOf 0x33 op ⟨rfl, rfl⟩ h
  · next op => exact formatN_isWordOf 0x34 op ⟨rfl, rfl⟩ h
  · next op => exact formatN_isWordOf 0x40 op ⟨rfl, rfl⟩ h
  · next op => exact formatRowCol_isWordOf 0x41 op (fun _ _ => ⟨rfl, rfl⟩) h
  · next op => exact formatN_isWordOf 0x50 op ⟨rfl, rfl⟩ h
  · next op => exact formatB_isWordOf 0x51 op (fun _ => ⟨rfl, rfl⟩) h
  · next op => exact formatN_isWordOf 0x52 op ⟨rfl, rfl⟩ h
  · next op => exact formatN_isWordOf 0x53 op ⟨rfl, rfl⟩ h
  · next op => exact formatB_isWordOf 0x54 op (fun _ => ⟨rfl, rfl⟩) h
  · next op => exact formatN_isWordOf 0x55 op ⟨rfl, rfl⟩ h
  · next op => exact formatN_isWordOf 0x56 op ⟨rfl, rfl⟩ h
  · cases h

end

/-- Settles O45: a command decodes from its word, and whatever the decoder answers has the word it was read from. -/
theorem decodeAndEncodeAgree : Obligations.DecodeAndEncodeAgree :=
  ⟨fun _ => decode_encode, fun _ _ => isWordOf_of_decode⟩

/-! ### The opcode map (30_encoding.md R103, R104) -/

/-- The word of every well-formed command matches that command's row. -/
theorem encodesOwnRow : ∀ i, Laws.EncodesOwnRow.Statement i
  | .nop => Laws.EncodesOwnRow.nop
  | .wreg reg data => Laws.EncodesOwnRow.wreg reg data
  | .rreg reg => Laws.EncodesOwnRow.rreg reg
  | .wpix row col v => Laws.EncodesOwnRow.wpix row col v
  | .rpix row col => Laws.EncodesOwnRow.rpix row col
  | .wpb idx byte => Laws.EncodesOwnRow.wpb idx byte
  | .rpb idx => Laws.EncodesOwnRow.rpb idx
  | .papp imm => Laws.EncodesOwnRow.papp imm
  | .pclr => Laws.EncodesOwnRow.pclr
  | .srst => Laws.EncodesOwnRow.srst
  | .aenc tag adr => Laws.EncodesOwnRow.aenc tag adr
  | .asplit imm => Laws.EncodesOwnRow.asplit imm
  | .pack2 row0 col ord n => Laws.EncodesOwnRow.pack2 row0 col ord n
  | .pack1 row0 col ord n => Laws.EncodesOwnRow.pack1 row0 col ord n
  | .sbegin => Laws.EncodesOwnRow.sbegin
  | .snext => Laws.EncodesOwnRow.snext
  | .sabort => Laws.EncodesOwnRow.sabort
  | .encbmp => Laws.EncodesOwnRow.encbmp
  | .encinit => Laws.EncodesOwnRow.encinit
  | .binit => Laws.EncodesOwnRow.binit
  | .bdata chunk col => Laws.EncodesOwnRow.bdata chunk col
  | .csinit => Laws.EncodesOwnRow.csinit
  | .csacc imm => Laws.EncodesOwnRow.csacc imm
  | .csbuf => Laws.EncodesOwnRow.csbuf
  | .fopen => Laws.EncodesOwnRow.fopen
  | .fput imm => Laws.EncodesOwnRow.fput imm
  | .fclose => Laws.EncodesOwnRow.fclose
  | .fenc => Laws.EncodesOwnRow.fenc

section
variable {w : Word}

/-- A field that the mask covers is fixed by the match. -/
theorem fixed_of_and {m p : Word} {s l : Nat} (h : w &&& m = p) (ones : m.extractLsb' s l = BitVec.allOnes l) :
    w.extractLsb' s l = p.extractLsb' s l := by
  rw [← h, BitVec.extractLsb'_and, ones, BitVec.and_allOnes]

/-- A word of a row of format N is the row's match, which decodes. -/
theorem decode_of_rowsN :
    ∀ r ∈ rowsN, r.mask = BitVec.allOnes 32 ∧ (decode r.pattern).map mnemonic = .ok r.mnemonic := by
  decide

/-- A word that matches a row with operands is the word of that row's command: the mask fixes OP and the reserved bits, and
the operands are read from the other fields. -/
theorem isWordOf_of_rowsWithOperands :
    ∀ r ∈ rowsWithOperands, w &&& r.mask = r.pattern → ∃ i, IsWordOf w i ∧ mnemonic i = r.mnemonic := by
  simp only [rowsWithOperands, List.forall_mem_cons]
  refine ⟨
    fun h => ⟨.wreg (field23to16 w) (data16Field w), ⟨rfl, regWord_eq (fixed_of_and h rfl)⟩, rfl⟩,
    fun h => ⟨.rreg _, ⟨rfl, wordOfBytes_eq (fixed_of_and h rfl) rfl (fixed_of_and h rfl) (fixed_of_and h rfl)⟩, rfl⟩,
    fun h => ⟨.wpix _ _ _, ⟨rfl, pixelWord_eq (fixed_of_and h rfl) (fixed_of_and h rfl)⟩, rfl⟩,
    fun h => ⟨.rpix _ _, ⟨rfl, wordOfBytes_eq (fixed_of_and h rfl) rfl rfl (fixed_of_and h rfl)⟩, rfl⟩,
    fun h => ⟨.wpb _ _, ⟨rfl, wordOfBytes_eq (fixed_of_and h rfl) (fixed_of_and h rfl) rfl rfl⟩, rfl⟩,
    fun h => ⟨.rpb _, ⟨rfl, wordOfBytes_eq (fixed_of_and h rfl) (fixed_of_and h rfl) rfl (fixed_of_and h rfl)⟩, rfl⟩,
    fun h => ⟨.papp _, ⟨rfl, wordOfBytes_eq (fixed_of_and h rfl) (fixed_of_and h rfl) (fixed_of_and h rfl) rfl⟩, rfl⟩,
    fun h => ⟨.aenc _ _, ⟨rfl, wordOfBytes_eq (fixed_of_and h rfl) (fixed_of_and h rfl) rfl rfl⟩, rfl⟩,
    fun h => ⟨.asplit _, ⟨rfl, wordOfBytes_eq (fixed_of_and h rfl) (fixed_of_and h rfl) (fixed_of_and h rfl) rfl⟩, rfl⟩,
    fun h => ⟨.pack2 _ _ _ _, ⟨decide_eq_true (sliceLengthField_lt w), sliceWord_eq (fixed_of_and h rfl)⟩, rfl⟩,
    fun h => ⟨.pack1 _ _ _ _, ⟨decide_eq_true (sliceLengthField_lt w), sliceWord_eq (fixed_of_and h rfl)⟩, rfl⟩,
    fun h => ⟨.bdata _ _, ⟨rfl, wordOfBytes_eq (fixed_of_and h rfl) rfl rfl (fixed_of_and h rfl)⟩, rfl⟩,
    fun h => ⟨.csacc _, ⟨rfl, wordOfBytes_eq (fixed_of_and h rfl) (fixed_of_and h rfl) (fixed_of_and h rfl) rfl⟩, rfl⟩,
    fun h => ⟨.fput _, ⟨rfl, wordOfBytes_eq (fixed_of_and h rfl) (fixed_of_and h rfl) (fixed_of_and h rfl) rfl⟩, rfl⟩,
    List.forall_mem_nil _⟩

/-- What has a mnemonic is a command. -/
theorem exists_of_map_eq_ok {e : Except DecodeError Instr} {m : String} (h : e.map mnemonic = .ok m) :
    ∃ i, e = .ok i ∧ mnemonic i = m := by
  cases e with
  | ok i => exact ⟨i, rfl, Except.ok.inj h⟩
  | error e => cases h

/-- A word that matches a row decodes to the row's command. -/
theorem decode_of_mem_opcodeTable {r : OpcodeRow} (hr : r ∈ opcodeTable) (h : w &&& r.mask = r.pattern) :
    ∃ i, decode w = .ok i ∧ mnemonic i = r.mnemonic := by
  obtain noOperands | operands := List.mem_append.mp hr
  · obtain ⟨mask, decoded⟩ := decode_of_rowsN r noOperands
    have whole : w = r.pattern := by rw [← h, mask, BitVec.and_allOnes]
    exact whole ▸ exists_of_map_eq_ok decoded
  · obtain ⟨i, ⟨wf, rfl⟩, name⟩ := isWordOf_of_rowsWithOperands r operands h
    exact ⟨i, decode_encode wf, name⟩

/-- A word that decodes matches the row of its command. -/
theorem exists_row_of_decode {i : Instr} (h : decode w = .ok i) :
    ∃ r ∈ opcodeTable, r.mnemonic = mnemonic i ∧ w &&& r.mask = r.pattern := by
  obtain ⟨wf, rfl⟩ := isWordOf_of_decode h
  obtain ⟨r, hr, name, spells⟩ := encodesOwnRow i wf
  exact ⟨r, hr, name, spells⟩

/-- Every mask covers the OP byte. -/
theorem opField_of_mem_opcodeTable {r : OpcodeRow} (hr : r ∈ opcodeTable) (h : w &&& r.mask = r.pattern) :
    opField w = opField r.pattern := by
  have covers : ∀ r ∈ opcodeTable, r.mask.extractLsb' 24 8 = BitVec.allOnes 8 := by decide
  exact fixed_of_and h (covers r hr)

/-- The rows have different OP bytes. -/
theorem row_eq_of_opField_eq :
    ∀ r ∈ opcodeTable, ∀ r' ∈ opcodeTable, opField r.pattern = opField r'.pattern → r = r' := by
  decide

end

/-- Settles O46: a word that decodes is the word of its command, which stands in its own row; a word that matches a row has
that row's fields; and two rows that one word matches have the same OP byte. -/
theorem decodeFollowsTheOpcodeMap : Obligations.DecodeFollowsTheOpcodeMap :=
  ⟨fun _ _ => exists_row_of_decode, fun _ _ => decode_of_mem_opcodeTable, fun _ r r' hr hr' h h' =>
    row_eq_of_opField_eq r hr r' hr' ((opField_of_mem_opcodeTable hr h).symm.trans (opField_of_mem_opcodeTable hr' h'))⟩

/-! ### Illegal words (30_encoding.md R105, R106) -/

/-- A word that matches no row of the opcode map spells no command. -/
theorem decode_error_of_no_row {w : Word} (h : ∀ r ∈ opcodeTable, w &&& r.mask ≠ r.pattern) :
    ∃ e, decode w = .error e := by
  cases decoded : decode w with
  | ok i =>
    obtain ⟨r, hr, -, spells⟩ := exists_row_of_decode decoded
    exact absurd spells (h r hr)
  | error e => exact ⟨e, rfl⟩

/-- Settles O49: the step accepts the word, the word decodes to no command, and IllegalCommand changes the response alone. -/
theorem illegalWordsRaiseIllegalCommand : Obligations.IllegalWordsRaiseIllegalCommand := by
  intro s w rest hcmd noRow
  obtain ⟨e, decoded⟩ := decode_error_of_no_row noRow
  calc step s = accept w (s.setCmd rest) := step_of_cmd_cons hcmd
    _ = raise .illegalCommand (s.setCmd rest) := accept_of_decode_error decoded _

/-! ### Sample words -/

/-- Settles O47, by running the decoder on the ten words. -/
theorem sampleWordsDecode : Obligations.SampleWordsDecode := by
  unfold Obligations.SampleWordsDecode
  decide

end Sys2Proof.Machine
end

section
/-! PROOF. The family 41_address_encoder.md: the branches of AENC (R132), ASPLIT's answer (R133), and that splitting and
merging a command byte undo each other (R130, R131). -/

namespace Sys2Proof.Machine

/-! ### AENC -/

section
variable {s : State} {tag adr : BitVec 8}

/-- AENC of an address above 15, whatever the tag's code. -/
theorem execAenc_of_large_address (h : 15 < adr.toNat) : execAenc tag adr s = raise .invalidAddress s :=
  if_pos h

/-- AENC of an address that fits, with a tag that has no code. -/
theorem execAenc_of_no_code (address : adr.toNat ≤ 15) (code : s.activeCode tag = none) :
    execAenc tag adr s = raise .unknownCommand s := by
  rw [execAenc, if_neg (Nat.not_lt_of_le address), code]

/-- AENC of an address that fits, with the tag's code `k`. -/
theorem execAenc_of_code {k : Nibble} (address : adr.toNat ≤ 15) (code : s.activeCode tag = some k) :
    execAenc tag adr s =
      complete ((merge k (adr.extractLsb' 0 4)).setWidth 16) (s.setCmdb (merge k (adr.extractLsb' 0 4))) := by
  rw [execAenc, if_neg (Nat.not_lt_of_le address), code]

/-- A tag has no code when no profile is set, or when the profile that is set gives it none. -/
theorem activeCode_eq_none (h : s.pvalid = 0 ∨ code s.cfg (profileOf s.pid) tag = none) : s.activeCode tag = none := by
  obtain unset | set := BitVec.eq_zero_or_eq_one s.pvalid
  · exact activeCode_of_unset tag unset
  · obtain unset | missing := h
    · exact activeCode_of_unset tag unset
    · rw [activeCode_of_set tag set, missing]

end

/-- Settles O11: the three clauses are AENC's three branches, the address check first. -/
theorem aencMergesCodeAndAddress : Obligations.AencMergesCodeAndAddress := by
  refine ⟨fun tag adr => decode_encode (i := .aenc tag adr) rfl, fun s tag adr => ⟨?_, ?_, ?_⟩⟩
  · exact execAenc_of_large_address
  · exact fun address noCode => execAenc_of_no_code address (activeCode_eq_none noCode)
  · intro k address set code
    have low : adr.extractLsb' 0 4 = adr.setWidth 4 := (BitVec.setWidth_eq_extractLsb' (by decide)).symm
    have answered := execAenc_of_code address ((activeCode_of_set tag set).trans code)
    rw [merge_eq_append, low, datum_of_byte] at answered
    exact answered

/-! ### Split and merge -/

@[simp] theorem codeNibble_merge (k a : Nibble) : codeNibble (merge k a) = k := by
  rw [merge_eq_append]
  exact (extract_append_high k a 4 4 (Nat.le_refl 4)).trans (extract_whole k)

@[simp] theorem addressNibble_merge (k a : Nibble) : addressNibble (merge k a) = a := by
  rw [merge_eq_append]
  exact (extract_append_low k a 0 4 (Nat.le_refl 4)).trans (extract_whole a)

@[simp] theorem merge_codeNibble_addressNibble (b : Byte) : merge (codeNibble b) (addressNibble b) = b := by
  rw [merge_eq_append]
  exact (BitVec.extractLsb'_append_extractLsb'_eq_extractLsb' rfl).trans (extract_whole b)

/-- Settles O12: ASPLIT completes with the split word in its own state, and the nibbles are the two halves of an append. -/
theorem asplitAnswersTheMergedNibbles : Obligations.AsplitAnswersTheMergedNibbles := by
  refine ⟨fun imm => decode_encode (i := .asplit imm) rfl, fun s k a => ?_,
    fun k a => ⟨merge_eq_append k a, codeNibble_merge k a, addressNibble_merge k a⟩, merge_codeNibble_addressNibble⟩
  calc exec (.asplit (k ++ a)) s = complete (splitWord (k ++ a)) s := rfl
    _ = complete ((0 : BitVec 4) ++ k ++ (0 : BitVec 4) ++ a) s := by rw [splitWord_append]

end Sys2Proof.Machine
end

section
/-! PROOF. The family 42_pixel_packer.md: the codes of the pixels in a packed byte (R151 to R154), unpacking (R158), slices
(R150), and the branches of PACK2 and PACK1 (R155, R156). -/

namespace Sys2Proof.Machine

/-! ### Marking places in a byte

A byte of `pack2` and a byte of `pack1` are made alike: of a fill, with one bit set for each pixel that is on. -/

/-- The byte `fill` with the bit at `place k` set for each k below `m` that is on. -/
def markPlaces (fill : Byte) (place : Nat → Nat) (on : Nat → Bool) (m : Nat) : Byte :=
  (List.range m).foldl (fun b k => if on k then b ||| BitVec.twoPow 8 (place k) else b) fill

section
variable {fill : Byte} {place : Nat → Nat} {on : Nat → Bool} {m k : Nat}

theorem markPlaces_succ :
    markPlaces fill place on (m + 1) =
      if on m then markPlaces fill place on m ||| BitVec.twoPow 8 (place m) else markPlaces fill place on m := by
  simp [markPlaces, List.range_succ]

/-- The bits of the byte are those of the fill and the places that are marked. -/
theorem getLsbD_markPlaces {i : Nat} (hi : i < 8) :
    (markPlaces fill place on m).getLsbD i = true ↔ fill.getLsbD i = true ∨ ∃ k < m, on k = true ∧ place k = i := by
  induction m with
  | zero => simp [markPlaces]
  | succ m ih =>
    rw [markPlaces_succ, Nat.exists_lt_succ_right, ← or_assoc, ← ih]
    split
    · next marked =>
      have places : place m < 8 ∧ place m = i ↔ place m = i := and_iff_right_of_imp fun h => h ▸ hi
      simp [marked, BitVec.getLsbD_twoPow, places]
    · next unmarked => simp [unmarked]

/-- A place of its own, where the fill is 0, holds whether its number is on. -/
theorem getLsbD_markPlaces_place (hk : k < m) (inside : place k < 8) (unfilled : fill.getLsbD (place k) = false)
    (own : ∀ l < m, place l = place k → l = k) : (markPlaces fill place on m).getLsbD (place k) = on k := by
  rw [Bool.eq_iff_iff, getLsbD_markPlaces inside, unfilled]
  constructor
  · rintro (h | ⟨l, hl, marked, same⟩)
    · cases h
    · exact own l hl same ▸ marked
  · exact fun marked => .inr ⟨k, hk, marked, rfl⟩

/-- With nothing on the byte is the fill. -/
theorem markPlaces_of_off (off : ∀ k, on k = false) : markPlaces fill place on m = fill := by
  induction m with
  | zero => rfl
  | succ m ih => rw [markPlaces_succ, off m, if_neg Bool.false_ne_true, ih]

end

/-! ### The places of the pixels -/

/-- The low bit of the field of pixel k of a byte, at 2 bits per pixel (42_pixel_packer.md R152). -/
def fieldPlace : BitOrder → Nat → Nat
  | .lsbFirst, k => 2 * k
  | .msbFirst, k => 6 - 2 * k

/-- The bit of pixel k of a byte, at 1 bit per pixel (42_pixel_packer.md R153). -/
def bitPlace : BitOrder → Nat → Nat
  | .lsbFirst, k => k
  | .msbFirst, k => 7 - k

section
variable {k l : Nat} (o : BitOrder)

/-- Both bits of a field lie in the byte. -/
theorem fieldPlace_lt (hk : k < 4) : fieldPlace o k + 1 < 8 := by
  cases o <;> simp only [fieldPlace] <;> omega

theorem fieldPlace_inj (hl : l < 4) (hk : k < 4) (same : fieldPlace o l = fieldPlace o k) : l = k := by
  cases o <;> simp only [fieldPlace] at same <;> omega

theorem bitPlace_lt (hk : k < 8) : bitPlace o k < 8 := by
  cases o <;> simp only [bitPlace] <;> omega

theorem bitPlace_inj (hl : l < 8) (hk : k < 8) (same : bitPlace o l = bitPlace o k) : l = k := by
  cases o <;> simp only [bitPlace] at same <;> omega

/-- The fill of `pack2` is the code `10` in every field (42_pixel_packer.md R151). -/
theorem fill_field (hk : k < 4) :
    (0xAA : Byte).getLsbD (fieldPlace o k) = false ∧ (0xAA : Byte).getLsbD (fieldPlace o k + 1) = true := by
  revert k
  cases o <;> decide

end

/-! ### The packed bytes -/

section
variable (ps : List Pixel) (o : BitOrder) {j k : Nat}

theorem pack2Byte_eq (j : Nat) : pack2Byte ps o j = markPlaces 0xAA (fieldPlace o) (fun k => isOn ps (4 * j + k)) 4 := by
  cases o <;> rfl

theorem pack1Byte_eq (j : Nat) : pack1Byte ps o j = markPlaces 0x00 (bitPlace o) (fun k => isOn ps (8 * j + k)) 8 := by
  cases o <;> rfl

/-- The low bit of a field of a byte of `pack2` is its pixel (42_pixel_packer.md R151). -/
theorem pack2Byte_low (j : Nat) (hk : k < 4) :
    (pack2Byte ps o j).getLsbD (fieldPlace o k) = isOn ps (4 * j + k) := by
  rw [pack2Byte_eq]
  exact getLsbD_markPlaces_place hk (Nat.lt_of_succ_lt (fieldPlace_lt o hk)) (fill_field o hk).1
    fun _ hl => fieldPlace_inj o hl hk

/-- A byte of `pack2` keeps the bits of its fill (42_pixel_packer.md R151). -/
theorem pack2Byte_of_fill (j : Nat) {i : Nat} (hi : i < 8) (filled : (0xAA : Byte).getLsbD i = true) :
    (pack2Byte ps o j).getLsbD i = true := by
  rw [pack2Byte_eq]
  exact (getLsbD_markPlaces hi).mpr (.inl filled)

/-- A bit of a byte of `pack1` is its pixel (42_pixel_packer.md R153). -/
theorem pack1Byte_bit (j : Nat) (hk : k < 8) : (pack1Byte ps o j).getLsbD (bitPlace o k) = isOn ps (8 * j + k) := by
  rw [pack1Byte_eq]
  exact getLsbD_markPlaces_place hk (bitPlace_lt o hk) BitVec.getLsbD_zero fun _ hl => bitPlace_inj o hl hk

theorem pack2_getD (hj : j < (ps.length + 3) / 4) : (pack2 ps o).getD j 0 = pack2Byte ps o j := by
  rw [List.getD_eq_getElem _ _ (by rwa [pack2_length])]
  simp only [pack2, List.getElem_map, List.getElem_range]

theorem pack1_getD (hj : j < (ps.length + 7) / 8) : (pack1 ps o).getD j 0 = pack1Byte ps o j := by
  rw [List.getD_eq_getElem _ _ (by rwa [pack1_length])]
  simp only [pack1, List.getElem_map, List.getElem_range]

/-! ### The pixels in the packed bytes -/

/-- The pixel at a bit that holds whether pixel i of the slice is on. -/
theorem extract_eq_pixel {b : Byte} {p i : Nat} (bit : b.getLsbD p = isOn ps i) : b.extractLsb' p 1 = ps.getD i 0 := by
  have pixel_ext : ∀ u v : Pixel, (u == 1) = (v == 1) → u = v := by decide
  exact pixel_ext _ _ ((BitVec.getLsbD_eq_extractLsb' b p).symm.trans bit)

theorem pack2_pixel (hj : j < (ps.length + 3) / 4) (hk : k < 4) :
    ((pack2 ps o).getD j 0).extractLsb' (fieldPlace o k) 1 = ps.getD (4 * j + k) 0 := by
  rw [pack2_getD ps o hj]
  exact extract_eq_pixel ps (pack2Byte_low ps o j hk)

theorem pack1_pixel (hj : j < (ps.length + 7) / 8) (hk : k < 8) :
    ((pack1 ps o).getD j 0).extractLsb' (bitPlace o k) 1 = ps.getD (8 * j + k) 0 := by
  rw [pack1_getD ps o hj]
  exact extract_eq_pixel ps (pack1Byte_bit ps o j hk)

/-- The high bit of every field is 1 (42_pixel_packer.md R158). -/
theorem pack2_high (hj : j < (ps.length + 3) / 4) (hk : k < 4) :
    ((pack2 ps o).getD j 0).extractLsb' (fieldPlace o k + 1) 1 = 1 := by
  have high := pack2Byte_of_fill ps o j (fieldPlace_lt o hk) (fill_field o hk).2
  rw [BitVec.getLsbD_eq_extractLsb', beq_iff_eq] at high
  rw [pack2_getD ps o hj]
  exact high

/-- Past its end a slice reads off, as padding does (42_pixel_packer.md R154). -/
theorem getD_eq_ite (i : Nat) : ps.getD i 0 = if i < ps.length then ps.getD i 0 else 0 := by
  split
  · rfl
  · next past => exact List.getD_eq_default _ _ (Nat.le_of_not_lt past)

/-- A field of two bits is its high bit above its low one. -/
theorem extract_two (b : Byte) (p : Nat) : b.extractLsb' p 2 = b.extractLsb' (p + 1) 1 ++ b.extractLsb' p 1 :=
  (BitVec.extractLsb'_append_extractLsb'_eq_extractLsb' (len₁ := 1) (len₂ := 1) rfl).symm

/-- A field is the code of its pixel: a 1 above the pixel (42_pixel_packer.md R151). -/
theorem pack2_field (hj : j < (ps.length + 3) / 4) (hk : k < 4) :
    ((pack2 ps o).getD j 0).extractLsb' (fieldPlace o k) 2 =
      if 4 * j + k < ps.length ∧ ps.getD (4 * j + k) 0 = 1 then (0b11 : BitVec 2) else 0b10 := by
  have code : ∀ v : Pixel, (1 : BitVec 1) ++ v = if v = 1 then (0b11 : BitVec 2) else 0b10 := by decide
  have inside : ps.getD (4 * j + k) 0 = 1 → 4 * j + k < ps.length := fun on =>
    Nat.lt_of_not_le fun past => by rw [List.getD_eq_default _ _ past] at on; cases on
  rw [extract_two, pack2_high ps o hj hk, pack2_pixel ps o hj hk, code]
  simp only [and_iff_right_of_imp inside]

end

/-- Settles O17: each order's fields stand at `fieldPlace`. -/
theorem pack2FieldsHoldThePixelCodes : Obligations.Pack2FieldsHoldThePixelCodes :=
  fun ps _ _ hj hk => ⟨pack2_length ps _, pack2_length ps _, pack2_field ps .lsbFirst hj hk, pack2_field ps .msbFirst hj hk⟩

/-- Settles O18: each order's bits stand at `bitPlace`. -/
theorem pack1BitsHoldThePixels : Obligations.Pack1BitsHoldThePixels := by
  intro ps j k hj hk
  rw [← getD_eq_ite]
  exact ⟨pack1_length ps _, pack1_length ps _, pack1_pixel ps .lsbFirst hj hk, pack1_pixel ps .msbFirst hj hk⟩

/-! ### All-off slices -/

theorem isOn_replicate_off (n i : Nat) : isOn (List.replicate n 0) i = false := by
  have off : (List.replicate n (0 : Pixel)).getD i 0 = 0 := List.getElem?_getD_replicate_default_eq 0 n i
  rw [isOn, off]
  rfl

/-- Settles O19: no pixel marks a place, so every byte is its fill. -/
theorem allOffSlicesPackToTheFill : Obligations.AllOffSlicesPackToTheFill := by
  intro n o
  have off := isOn_replicate_off n
  constructor
  · refine List.eq_replicate_iff.mpr ⟨by rw [pack2_length, List.length_replicate], fun b hb => ?_⟩
    obtain ⟨j, -, rfl⟩ := List.mem_map.mp hb
    rw [pack2Byte_eq, markPlaces_of_off fun _ => off _]
  · refine List.eq_replicate_iff.mpr ⟨by rw [pack1_length, List.length_replicate], fun b hb => ?_⟩
    obtain ⟨j, -, rfl⟩ := List.mem_map.mp hb
    rw [pack1Byte_eq, markPlaces_of_off fun _ => off _]

/-! ### Unpacking -/

section
variable (bs : List Byte) (o : BitOrder)

theorem unpack2Pixel_eq (i : Nat) :
    unpack2Pixel bs o i = (bs.getD (i / 4) 0).extractLsb' (fieldPlace o (i % 4)) 1 := by
  cases o <;> rfl

theorem unpack1Pixel_eq (i : Nat) :
    unpack1Pixel bs o i = (bs.getD (i / 8) 0).extractLsb' (bitPlace o (i % 8)) 1 := by
  cases o <;> rfl

/-- A list is rebuilt from a function that answers its elements. -/
theorem map_range_eq_of_getD {ps : List Pixel} {f : Nat → Pixel} (h : ∀ i < ps.length, f i = ps.getD i 0) :
    (List.range ps.length).map f = ps := by
  refine List.ext_getElem (by simp) fun i hi hi' => ?_
  rw [List.getElem_map, List.getElem_range, h i hi', List.getD_eq_getElem _ _ hi']

theorem unpack2_pack2 (ps : List Pixel) : unpack2 (pack2 ps o) o ps.length = ps := by
  refine map_range_eq_of_getD fun i hi => ?_
  rw [unpack2Pixel_eq, pack2_pixel ps o (by omega) (Nat.mod_lt _ (by decide)), Nat.div_add_mod]

theorem unpack1_pack1 (ps : List Pixel) : unpack1 (pack1 ps o) o ps.length = ps := by
  refine map_range_eq_of_getD fun i hi => ?_
  rw [unpack1Pixel_eq, pack1_pixel ps o (by omega) (Nat.mod_lt _ (by decide)), Nat.div_add_mod]

/-- The bits of the fill stand in every byte of `pack2` (42_pixel_packer.md R158). -/
theorem pack2_and_fill (ps : List Pixel) {b : Byte} (hb : b ∈ pack2 ps o) : b &&& 0xAA = 0xAA := by
  obtain ⟨j, -, rfl⟩ := List.mem_map.mp hb
  refine BitVec.eq_of_getLsbD_eq fun i hi => ?_
  rw [BitVec.getLsbD_and, Bool.and_eq_right_iff_imp]
  exact pack2Byte_of_fill ps o j hi

end

/-- Settles O20: pixel i of the slice is read back from place i % 4 of byte i / 4, or place i % 8 of byte i / 8. -/
theorem unpackUndoesPack : Obligations.UnpackUndoesPack :=
  fun ps o => ⟨unpack2_pack2 o ps, unpack1_pack1 o ps, fun _ => pack2_and_fill o ps⟩

/-! ### Slices -/

/-- Settles O16: a slice lists the pixels of the rows from row0 on, each as `pixAt` reads it. -/
theorem sliceRunsDownTheColumn : Obligations.SliceRunsDownTheColumn := by
  intro pix wd ht c row0 n
  refine ⟨slice_length .., fun i hi => ?_⟩
  rw [slice, List.getElem?_map, List.getElem?_range hi]
  rfl

/-! ### PACK2 and PACK1 -/

section
variable {s : State} {col : BitVec 8} {bytes : List Byte} {len : Nat}

/-- Packing a column outside the bitmap, whatever the room. -/
theorem packColumn_of_outside (column : s.width.toNat ≤ col.toNat) :
    packColumn col bytes s = raise .dimensionMismatch s :=
  if_pos column

/-- Packing a column into too little room. -/
theorem packColumn_of_full (column : col.toNat < s.width.toNat) (length : bytes.length = len)
    (full : pMax < s.plen.toNat + len) : packColumn col bytes s = raise .payloadOverflow s := by
  subst length
  rw [packColumn, if_neg (Nat.not_le_of_lt column), if_pos full]

/-- Packing a column into room that it fits. -/
theorem packColumn_of_room (column : col.toNat < s.width.toNat) (room : s.plen.toNat + bytes.length ≤ pMax) :
    packColumn col bytes s = complete (BitVec.ofNat 16 bytes.length) (s.appendPayload bytes) := by
  rw [packColumn, if_neg (Nat.not_le_of_lt column), if_neg (Nat.not_lt_of_le room)]

/-- Packing a column that fits changes PLEN, PBUF and the response alone, and appends the bytes to PBUF. -/
theorem packColumn_appends (column : col.toNat < s.width.toNat) (length : bytes.length = len)
    (room : s.plen.toNat + len ≤ pMax) :
    ∃ t, packColumn col bytes s = .next t
      ∧ t = { s with
          plen := BitVec.ofNat 9 (s.plen.toNat + len), pbuf := t.pbuf, rspStatus := 0, rspData := BitVec.ofNat 16 len }
      ∧ ∀ a, t.pbufByte a =
          if s.plen.toNat ≤ a ∧ a < s.plen.toNat + len then bytes.getD (a - s.plen.toNat) 0 else s.pbufByte a := by
  subst length
  exact ⟨_, packColumn_of_room column room, rfl, s.pbufByte_appendPayload bytes⟩

end

/-- The low byte of format S, as the statements write it (30_encoding.md R101). -/
theorem sliceByte_eq_append (o : BitOrder) (n : Nat) :
    (if o = .lsbFirst then (0 : BitVec 1) else 1) ++ BitVec.ofNat 7 n = sliceByte o n := by
  cases o <;> rfl

/-- Settles O14: PACK2's three clauses are the branches of `packColumn`, the column check first. -/
theorem pack2AppendsThePackedSlice : Obligations.Pack2AppendsThePackedSlice := by
  refine ⟨fun row0 col o n hn => ?_, fun s row0 col o n => ?_⟩
  · rw [sliceByte_eq_append]
    exact decode_encode (i := .pack2 row0 col o n) (decide_eq_true hn)
  · have length : (pack2 (sliceOperand s row0 col n) o).length = (n + 3) / 4 := by
      rw [pack2_length, sliceOperand, slice_length]
    exact ⟨packColumn_of_outside, fun column => packColumn_of_full column length,
      fun column => packColumn_appends column length⟩

/-- Settles O15: PACK1's three clauses are the branches of `packColumn`, the column check first. -/
theorem pack1AppendsThePackedSlice : Obligations.Pack1AppendsThePackedSlice := by
  refine ⟨fun row0 col o n hn => ?_, fun s row0 col o n => ?_⟩
  · rw [sliceByte_eq_append]
    exact decode_encode (i := .pack1 row0 col o n) (decide_eq_true hn)
  · have length : (pack1 (sliceOperand s row0 col n) o).length = (n + 7) / 8 := by
      rw [pack1_length, sliceOperand, slice_length]
    exact ⟨packColumn_of_outside, fun column => packColumn_of_full column length,
      fun column => packColumn_appends column length⟩

end Sys2Proof.Machine
end

section
/-! PROOF. The family 43_chunk_planner.md, the single commands: SBEGIN (R183), SABORT (R186), ENCINIT (R188), and one SNEXT with
its cursor advance (R184, R185, R189). -/

namespace Sys2Proof.Machine

variable {s : State}

/-! ### SBEGIN and SABORT -/

/-- SBEGIN when one of its checks fails. -/
theorem execSbegin_of_error {e : CodecError} (h : sessionError s = some e) : execSbegin s = raise e s := by
  rw [execSbegin, h]

/-- SBEGIN when its checks pass. -/
theorem execSbegin_of_checked (h : sessionError s = none) :
    execSbegin s = complete (BitVec.ofNat 16 (sessionLength s)) s.startSession := by
  rw [execSbegin, h]

/-- SBEGIN's first check: no frame is open (43_chunk_planner.md R183). -/
theorem sessionError_of_opened (h : s.fstate = .opened) : sessionError s = some .sequenceError :=
  if_pos h

/-- SBEGIN's second check: a profile is set and no dimension is zero (43_chunk_planner.md R183). -/
theorem sessionError_of_dimensions (framer : s.fstate = .idle) (h : s.pvalid = 0 ∨ s.width = 0 ∨ s.height = 0) :
    sessionError s = some .dimensionMismatch := by
  rw [sessionError, if_neg (by simp [framer]), if_pos h]

/-- SBEGIN's third check: the profile has an init code and a data code (43_chunk_planner.md R183). -/
theorem sessionError_of_no_code (framer : s.fstate = .idle) (profile : s.pvalid = 1) (width : s.width ≠ 0)
    (height : s.height ≠ 0) (h : initCode s.cfg s.activeProfile = none ∨ dataCode s.cfg s.activeProfile = none) :
    sessionError s = some .unknownCommand := by
  rw [sessionError, if_neg (by simp [framer]), if_neg (by simp only [profile, width, height]; decide),
    if_pos (h.imp Option.isNone_iff_eq_none.mpr Option.isNone_iff_eq_none.mpr)]

/-- Settles O37: the clauses are SBEGIN's three failing checks in their order, and the start of a session. -/
theorem sbeginLatchesAndCounts : Obligations.SbeginLatchesAndCounts := by
  refine ⟨decode_encode (i := .sbegin) rfl, fun s => ⟨?opened, ?dimensions, ?noCode, ?started⟩⟩
  case opened => exact fun opened => execSbegin_of_error (sessionError_of_opened opened)
  case dimensions =>
    exact fun framer dimensions => execSbegin_of_error (sessionError_of_dimensions framer dimensions)
  case noCode =>
    exact fun framer profile width height noCode =>
      execSbegin_of_error (sessionError_of_no_code framer profile width height noCode)
  case started =>
    intro framer profile width height init data
    have checked : sessionError s = none := sessionError_eq_none.mpr
      ⟨by simp [framer], by simp [profile], width, height, Option.isSome_iff_ne_none.mpr init,
        Option.isSome_iff_ne_none.mpr data⟩
    exact ⟨_, _, rfl, rfl, execSbegin_of_checked checked⟩

/-- Settles O39: SABORT completes in every state, with the cursor of a session not begun. -/
theorem sabortAbandonsTheSession : Obligations.SabortAbandonsTheSession :=
  ⟨decode_encode (i := .sabort) rfl, fun _ => rfl⟩

/-! ### ENCINIT -/

/-- The RawFrame that BINIT loads is the one that is sent, since its payload fits PBUF (43_chunk_planner.md R188). -/
theorem State.sendRaw_loadRaw (cmd : Byte) {pl : List Byte} (fits : pl.length ≤ pMax) :
    (s.loadRaw cmd pl).sendRaw = (s.loadRaw cmd pl).sendFrame cmd pl := by
  rw [State.sendRaw, State.payload_loadRaw s cmd pl fits, State.loadRaw_cmdb]

/-- All that loading a RawFrame and sending it writes (43_chunk_planner.md R185, R188). -/
theorem State.sendFrame_loadRaw (cmd : Byte) (pl : List Byte) :
    (s.loadRaw cmd pl).sendFrame cmd pl = { s with
      cmdb := cmd, plen := BitVec.ofNat 9 pl.length, pbuf := s.pbuf.writeList 0 pl
      tx := s.tx ++ wire cmd pl, acc := csum (cmd :: pl) } := rfl

/-- The length ENCINIT answers is that of the frame of the RawFrame loaded. -/
theorem State.rawFrameLength_loadRaw (cmd : Byte) {pl : List Byte} (fits : pl.length ≤ pMax) :
    (s.loadRaw cmd pl).rawFrameLength = (wire cmd pl).length := by
  rw [State.rawFrameLength, State.payload_loadRaw s cmd pl fits, State.loadRaw_cmdb]

/-- ENCINIT while a hand-built frame is open. -/
theorem execEncinit_of_opened (h : s.fstate = .opened) : execEncinit s = raise .sequenceError s :=
  if_pos h

/-- ENCINIT without an init code. -/
theorem execEncinit_of_no_code (framer : s.fstate = .idle) (code : s.activeCode tagInit = none) :
    execEncinit s = raise .unknownCommand s := by
  rw [execEncinit, if_neg (by simp [framer]), code]

/-- ENCINIT with the init code `k`. -/
theorem execEncinit_of_code {k : Nibble} (legal : s.cfg.legal = true) (framer : s.fstate = .idle)
    (code : s.activeCode tagInit = some k) :
    execEncinit s = complete (BitVec.ofNat 16 (wire (merge k s.addr) (initPayload s.cfg s.activeProfile)).length)
      ((s.loadRaw (merge k s.addr) (initPayload s.cfg s.activeProfile)).sendFrame (merge k s.addr)
        (initPayload s.cfg s.activeProfile)) := by
  have fits : (initPayload s.cfg s.activeProfile).length ≤ pMax := (initPayload_length_le legal _).trans (by decide)
  rw [execEncinit, if_neg (by simp [framer]), code]
  simp only [State.buildInit, State.rawFrameLength_loadRaw _ fits, State.sendRaw_loadRaw _ fits]

/-- Settles O41: the clauses are ENCINIT's two refusals in their order, and the frame of BINIT's RawFrame. -/
theorem encinitEmitsTheInitFrame : Obligations.EncinitEmitsTheInitFrame := by
  refine ⟨decode_encode (i := .encinit) rfl, fun s => ⟨?opened, ?noCode, ?sent⟩⟩
  case opened => exact execEncinit_of_opened
  case noCode => exact fun framer noCode => execEncinit_of_no_code framer (activeCode_eq_none noCode)
  case sent =>
    rintro k pl legal framer profile code rfl
    have sent := execEncinit_of_code legal framer ((activeCode_of_set tagInit profile).trans code)
    rw [merge_eq_append, State.sendFrame_loadRaw] at sent
    exact ⟨_, sent, rfl, s.pbufByte_loadRaw _ _⟩

/-! ### The cursor's advance -/

/-- The advance past an init frame: PHASE alone (43_chunk_planner.md R184). -/
theorem State.advance_of_init (init : s.phase = .init) : s.advance = { s with phase := .data } := by
  simp [State.advance, init, State.afterInitFrame, State.setCursor]

/-- The advance past a data frame, by whether it was the last of its column and of its chunk (43_chunk_planner.md R184). -/
theorem State.advance_of_data (active : s.sst = .active) (data : s.phase = .data) {lastCol lastChunk : Bool}
    (hcol : lastCol = decide (s.sW.toNat ≤ s.ccol.toNat + 1))
    (hchunk : lastChunk = decide (s.cchunk.toNat + 1 = chunksOf s.cfg s.sessionProfile s.sH.toNat)) :
    s.advance = { s with
      ccol := if lastCol then 0 else s.ccol + 1
      cchunk := if lastCol then s.cchunk + 1 else s.cchunk
      sst := if lastCol && lastChunk then .done else .active
      phase := if lastCol && !lastChunk && s.cfg.initPerChunk.at s.sessionProfile then .init else .data } := by
  have moved : s.advance = s.afterDataFrame := by rw [State.advance, data]
  rw [moved]
  have nextChunk : BitVec.ofNat 8 (s.cchunk.toNat + 1) = s.cchunk + 1 := by simp [BitVec.ofNat_add]
  have nextCol : BitVec.ofNat 8 (s.ccol.toNat + 1) = s.ccol + 1 := by simp [BitVec.ofNat_add]
  rcases s.afterDataFrame_cases with ⟨more, e⟩ | ⟨full, last, e⟩ | ⟨full, more, perChunk, e⟩ | ⟨full, more, once, e⟩
  · rw [decide_eq_false (Nat.not_le_of_lt more)] at hcol
    simp [e, State.setCursor, nextCol, hcol, active, data]
  · rw [decide_eq_true full] at hcol
    rw [decide_eq_true last] at hchunk
    simp [e, State.setCursor, nextChunk, hcol, hchunk, data]
  · rw [decide_eq_true full] at hcol
    rw [decide_eq_false more] at hchunk
    simp [e, State.setCursor, nextChunk, hcol, hchunk, active, perChunk]
  · rw [decide_eq_true full] at hcol
    rw [decide_eq_false more] at hchunk
    simp [e, State.setCursor, nextChunk, hcol, hchunk, active, data, once]

/-! ### What a session works from -/

/-- Two states that agree on what a session works from: the parameters, PIX, the shadows and the cursor
(43_chunk_planner.md R189). -/
structure State.SameSession (s u : State) : Prop where
  cfg : u.cfg = s.cfg
  pix : u.pix = s.pix
  sPid : u.sPid = s.sPid
  sAddr : u.sAddr = s.sAddr
  sW : u.sW = s.sW
  sH : u.sH = s.sH
  sst : u.sst = s.sst
  phase : u.phase = s.phase
  cchunk : u.cchunk = s.cchunk
  ccol : u.ccol = s.ccol

section
variable {u : State}

theorem State.SameSession.nextCommandByte_eq (h : s.SameSession u) : nextCommandByte u = nextCommandByte s := by
  simp only [nextCommandByte, State.sessionProfile, h.phase, h.cfg, h.sPid, h.sAddr]

theorem State.SameSession.nextPayload_eq (h : s.SameSession u) : nextPayload u = nextPayload s := by
  simp only [nextPayload, State.sessionProfile, h.phase, h.cfg, h.pix, h.sPid, h.sW, h.sH, h.ccol, h.cchunk]

theorem State.SameSession.nextFrame_eq (h : s.SameSession u) : nextFrame u = nextFrame s := by
  rw [nextFrame, nextFrame, h.nextCommandByte_eq, h.nextPayload_eq]

/-- Loading and sending a frame leaves what the session works from alone. -/
theorem State.sameSession_loadRaw_sendFrame (s : State) (cmd : Byte) (pl : List Byte) :
    s.SameSession ((s.loadRaw cmd pl).sendFrame cmd pl) := by
  constructor <;> simp

/-- The cursor of one advances to where the cursor of the other does. -/
theorem State.SameSession.advance_eq (h : s.SameSession u) :
    u.advance = { u with
      sst := s.advance.sst, phase := s.advance.phase, cchunk := s.advance.cchunk, ccol := s.advance.ccol } := by
  cases phase : s.phase with
  | init =>
    simp only [State.advance, h.phase, phase, State.afterInitFrame, State.setCursor, h.sst, h.cchunk, h.ccol]
  | data =>
    simp only [State.advance, State.afterDataFrame, State.sessionProfile, h.phase, phase, h.cfg, h.sPid, h.sW, h.sH,
      h.sst, h.cchunk, h.ccol]
    split_ifs <;> simp only [State.setCursor, h.cfg, h.sPid, h.sW, h.sH]

end

/-! ### SNEXT -/

/-- All that SNEXT writes but the response (43_chunk_planner.md R185). -/
theorem State.sendNext_eq (s : State) :
    s.sendNext = { s with
      cmdb := nextCommandByte s, plen := BitVec.ofNat 9 (nextPayload s).length
      pbuf := s.pbuf.writeList 0 (nextPayload s), tx := s.tx ++ nextFrame s
      acc := csum (nextCommandByte s :: nextPayload s)
      sst := s.advance.sst, phase := s.advance.phase, cchunk := s.advance.cchunk, ccol := s.advance.ccol } := by
  rw [State.sendNext, (s.sameSession_loadRaw_sendFrame _ _).advance_eq, State.sendFrame_loadRaw, nextFrame]

/-- Every byte of PBUF after SNEXT. -/
theorem State.pbufByte_sendNext (s : State) (a : Nat) :
    s.sendNext.pbufByte a = if a < (nextPayload s).length then (nextPayload s).getD a 0 else s.pbufByte a := by
  rw [State.pbufByte, State.sendNext_pbuf]
  exact s.pbufByte_loadRaw (nextCommandByte s) (nextPayload s) a

/-- SNEXT outside an active session or while a frame is open. -/
theorem execSnext_of_refused (h : s.fstate = .opened ∨ s.sst ≠ .active) : execSnext s = raise .sequenceError s :=
  if_pos h

/-- SNEXT in an active session. -/
theorem execSnext_of_active (framer : s.fstate = .idle) (active : s.sst = .active) :
    execSnext s = complete (nextFrameResponse s.sendNext.sst (nextFrame s).length) s.sendNext :=
  if_neg (by simp [framer, active])

theorem nextPayload_of_init (init : s.phase = .init) : nextPayload s = initPayload s.cfg s.sessionProfile := by
  rw [nextPayload, init]

theorem nextPayload_of_data (data : s.phase = .data) :
    nextPayload s =
      dataPayload s.cfg s.pix s.sessionProfile s.sW.toNat s.sH.toNat s.ccol.toNat s.cchunk.toNat := by
  rw [nextPayload, data]

theorem nextCommandByte_of_init {k : Nibble} (init : s.phase = .init)
    (code : initCode s.cfg s.sessionProfile = some k) : nextCommandByte s = k ++ s.sAddr := by
  rw [nextCommandByte, init, code]
  exact merge_eq_append k s.sAddr

theorem nextCommandByte_of_data {k : Nibble} (data : s.phase = .data)
    (code : dataCode s.cfg s.sessionProfile = some k) : nextCommandByte s = k ++ s.sAddr := by
  rw [nextCommandByte, data, code]
  exact merge_eq_append k s.sAddr

/-- Bit 15 of the answer is set while the session goes on (43_chunk_planner.md R185). -/
theorem nextFrameResponse_active (n : Nat) : nextFrameResponse .active n = 0x8000 ||| BitVec.ofNat 16 n := rfl

theorem nextFrameResponse_ite (ends : Bool) (n : Nat) :
    nextFrameResponse (if ends then .done else .active) n = (if ends then 0 else 0x8000) ||| BitVec.ofNat 16 n := by
  cases ends <;> rfl

/-- What SNEXT completes with, for the command byte and the payload that the cursor names. -/
theorem execSnext_of_frame (framer : s.fstate = .idle) (active : s.sst = .active) {cmd : Byte} {pl : List Byte}
    (command : nextCommandByte s = cmd) (payload : nextPayload s = pl) :
    ∃ t, execSnext s = .next t
      ∧ t = { s with
          cmdb := cmd, plen := BitVec.ofNat 9 pl.length, pbuf := t.pbuf, tx := s.tx ++ wire cmd pl
          acc := csum (cmd :: pl), sst := s.advance.sst, phase := s.advance.phase, cchunk := s.advance.cchunk
          ccol := s.advance.ccol, rspStatus := 0
          rspData := nextFrameResponse s.advance.sst (wire cmd pl).length }
      ∧ ∀ a, t.pbufByte a = if a < pl.length then pl.getD a 0 else s.pbufByte a := by
  subst command payload
  refine ⟨_, execSnext_of_active framer active, ?_, s.pbufByte_sendNext⟩
  rw [State.sendNext_eq]
  rfl

/-- Settles O38: the clauses are SNEXT's refusal, the init frame and the data frame, each with its advance of the cursor. -/
theorem snextSendsTheFrameAtTheCursor : Obligations.SnextSendsTheFrameAtTheCursor := by
  refine ⟨decode_encode (i := .snext) rfl, fun s => ⟨execSnext_of_refused, ?init, ?data⟩⟩
  case init =>
    intro k pl framer active init code payload
    have sent := execSnext_of_frame framer active (nextCommandByte_of_init init code)
      ((nextPayload_of_init init).trans payload.symm)
    simp only [State.advance_of_init init, active, nextFrameResponse_active] at sent ⊢
    exact sent
  case data =>
    intro k pl lastCol lastChunk framer active data code payload hcol hchunk
    have sent := execSnext_of_frame framer active (nextCommandByte_of_data data code)
      ((nextPayload_of_data data).trans payload.symm)
    simp only [State.advance_of_data active data hcol hchunk, nextFrameResponse_ite] at sent
    exact sent

/-- Settles O44: the next frame, the response and the cursor after it are those of the other state. -/
theorem sessionFramesDependOnlyOnLatchedState : Obligations.SessionFramesDependOnlyOnLatchedState := by
  intro s u framer framer' cfg pix sPid sAddr sW sH sst phase cchunk ccol
  have same : s.SameSession u := ⟨cfg, pix, sPid, sAddr, sW, sH, sst, phase, cchunk, ccol⟩
  by_cases active : s.sst = .active
  · refine ⟨nextFrame s, _, _, execSnext_of_active framer active, execSnext_of_active framer' (sst.trans active), ?_⟩
    simp [State.sendNext_eq, same.nextFrame_eq, same.advance_eq]
  · exact ⟨[], _, _, execSnext_of_refused (.inr active), execSnext_of_refused (.inr (sst ▸ active)),
      (List.append_nil _).symm, (List.append_nil _).symm, rfl, rfl, sst, phase, cchunk, ccol⟩

end Sys2Proof.Machine
end

section
/-! PROOF. The family 43_chunk_planner.md, the plan and the walk along it: how many frames a plan has (R181, R182), and that SBEGIN
and a row of SNEXTs send them in order (R184, R185). -/

namespace Sys2Proof.Machine

/-! ### The length of a plan -/

section
variable (c : Config) (pix : Memory 1) (p : Profile) (a : Nibble) (wd ht : Nat)

/-- A chunk has a data frame for each column, and an init frame when it is the first or INIT_PER_CHUNK is set. -/
theorem chunkFrames_length (k : Nat) :
    (chunkFrames c pix p a wd ht k).length = (if k = 0 ∨ c.initPerChunk.at p = true then 1 else 0) + wd := by
  rw [chunkFrames, List.length_append, List.length_map, List.length_range]
  split_ifs <;> rfl

/-- The frames of the first n + 1 chunks: one init frame in all, or one for each chunk (43_chunk_planner.md R181). -/
theorem firstChunks_length (n : Nat) :
    ((List.range (n + 1)).flatMap (chunkFrames c pix p a wd ht)).length
      = (n + 1) * wd + (if c.initPerChunk.at p then n + 1 else 1) := by
  induction n with
  | zero => simp [chunkFrames_length, Nat.add_comm]
  | succ n ih =>
    rw [List.range_succ, List.flatMap_append, List.length_append, ih, List.flatMap_singleton, chunkFrames_length,
      Nat.succ_mul (n + 1)]
    cases c.initPerChunk.at p <;> simp <;> omega

/-- A plan has frameCount frames (43_chunk_planner.md R182). -/
theorem sessionFrames_length {ht : Nat} (height : 0 < ht) :
    (sessionFrames c pix p a wd ht).length = frameCount c p wd ht := by
  obtain ⟨n, hn⟩ := Nat.exists_eq_succ_of_ne_zero (chunksOf_pos c p height).ne'
  rw [sessionFrames, frameCount, hn, firstChunks_length]

variable {wd ht} in
/-- "The largest count is 8224" (43_chunk_planner.md R182). -/
theorem frameCount_le (width : wd ≤ 256) (height : ht ≤ 256) : frameCount c p wd ht ≤ 8224 := by
  have chunks := chunksOf_le c p height
  have columns : chunksOf c p ht * wd ≤ 32 * 256 := Nat.mul_le_mul chunks width
  rw [frameCount]
  split_ifs <;> omega

end

/-- Settles O42: the frames are counted chunk by chunk, and there are at most 32 chunks of at most 256 columns. -/
theorem sessionPlanHasFrameCountFrames : Obligations.SessionPlanHasFrameCountFrames :=
  fun c pix p a wd _ _ height => ⟨sessionFrames_length c pix p a wd height, frameCount_le c p⟩

/-! ### The length of a frame -/

theorem esc_length_le (b : Byte) : (esc b).length ≤ 2 := by
  rcases esc_cases b with ⟨-, h⟩ | ⟨-, h⟩ | ⟨-, -, h⟩ <;> simp [h]

theorem escL_length_le (l : List Byte) : (escL l).length ≤ 2 * l.length := by
  induction l with
  | nil => exact Nat.le_refl 0
  | cons b l ih =>
    have := esc_length_le b
    rw [escL_cons, List.length_append, List.length_cons]
    omega

theorem wire_length_le (cmd : Byte) (pl : List Byte) : (wire cmd pl).length ≤ 2 * pl.length + 6 := by
  have := escL_length_le (frameBody cmd pl)
  simp only [frameBody, wire, List.length_append, List.length_singleton] at this ⊢
  omega

/-- The length of a session's frame leaves bit 15 of the answer to the session's state (43_chunk_planner.md R185). -/
theorem nextFrameResponse_bit15 (sst : SessionState) {n : Nat} (h : n < 2 ^ 15) :
    (nextFrameResponse sst n).getLsbD 15 = true ↔ sst = .active := by
  have low : (BitVec.ofNat 16 n).getLsbD 15 = false := by
    rw [BitVec.getLsbD_ofNat, Nat.testBit_lt_two_pow h, Bool.and_false]
  rw [nextFrameResponse, BitVec.getLsbD_or, low, Bool.or_false]
  cases sst <;> decide

section
variable {s t : State}

theorem nextFrame_length_lt (legal : s.cfg.legal = true) : (nextFrame s).length < 2 ^ 15 := by
  have frame := wire_length_le (nextCommandByte s) (nextPayload s)
  have payload := nextPayload_length_le legal
  rw [nextFrame]
  omega

/-! ### The walk along the plan -/

/-- A session has frames left exactly while it is active. -/
theorem State.Inv.active_iff (h : s.Inv) : s.sst = .active ↔ s.remaining ≠ [] := by
  constructor
  · intro active
    rw [State.remaining_sendNext active (h.atFrame active)]
    exact List.cons_ne_nil _ _
  · intro left
    cases sst : s.sst with
    | active => rfl
    | idle => exact absurd (by simp only [State.remaining, sst]) left
    | done => exact absurd (State.remaining_of_done sst) left

/-- A session that sends a frame goes on or is done: only SABORT makes it idle (43_chunk_planner.md R184). -/
theorem State.sendNext_sst_ne_idle (active : s.sst = .active) : s.sendNext.sst ≠ .idle := by
  rw [State.sendNext_eq]
  cases phase : s.phase with
  | init => simp [State.advance_of_init phase, active]
  | data =>
    rw [State.advance_of_data active phase rfl rfl]
    split <;> simp

/-- `s.Walked sent t`: in `t` the frames `sent` of the session that began in `s` have been sent, and the rest is left. -/
structure State.Walked (s : State) (sent : List (List Byte)) (t : State) : Prop where
  inv : t.Inv
  framer : t.fstate = .idle
  begun : t.sst ≠ .idle
  status : t.rspStatus = 0
  tx : t.tx = s.tx ++ sent.flatten
  plan : s.startSession.remaining = sent ++ t.remaining
  goesOn : 1 ≤ sent.length → (t.rspData.getLsbD 15 = true ↔ t.sst = .active)

/-- While frames are left the session is active. -/
theorem State.Walked.active_iff {sent : List (List Byte)} (h : s.Walked sent t) :
    t.sst = .active ↔ sent.length < s.startSession.remaining.length := by
  rw [h.inv.active_iff, h.plan, List.length_append, ← List.length_pos_iff]
  omega

/-- SBEGIN stands before the whole plan. -/
theorem State.walked_sbegin (h : s.Inv) (checked : sessionError s = none) :
    ∃ t, exec .sbegin s = .next t ∧ s.Walked [] t := by
  obtain ⟨framer, -⟩ := sessionError_eq_none.mp checked
  exact ⟨_, execSbegin_of_checked checked,
    { inv := (h.startSession checked).respond fun failed => absurd rfl failed
      framer := by
        cases fstate : s.fstate with
        | idle => exact fstate
        | opened => exact absurd fstate framer
      begun := nofun
      status := rfl
      tx := (List.append_nil _).symm
      plan := rfl
      goesOn := nofun }⟩

/-- One SNEXT sends one frame more. -/
theorem State.Walked.snext {sent : List (List Byte)} (h : s.Walked sent t)
    (more : sent.length < s.startSession.remaining.length) :
    ∃ f u, exec .snext t = .next u ∧ s.Walked (sent ++ [f]) u := by
  have active := h.active_iff.mpr more
  exact ⟨nextFrame t, _, execSnext_of_active h.framer active,
    { inv := (h.inv.sendNext active).respond fun failed => absurd rfl failed
      framer := (State.sendNext_fstate t).trans h.framer
      begun := State.sendNext_sst_ne_idle active
      status := rfl
      tx := by simp [h.tx]
      plan := by
        rw [h.plan, State.remaining_sendNext active (h.inv.atFrame active), List.append_assoc]
        rfl
      goesOn := fun _ => nextFrameResponse_bit15 _ (nextFrame_length_lt h.inv.config) }⟩

theorem execAll_append {is js : List Instr} (h : execAll is s = .next t) : execAll (is ++ js) s = execAll js t := by
  induction is generalizing s with
  | nil => cases h; rfl
  | cons i is ih =>
    rw [List.cons_append]
    cases hi : exec i s with
    | next u =>
      simp only [execAll, hi] at h ⊢
      exact ih h
    | fault r => cases r
    | refused r => simp only [execAll, hi] at h; cases h

/-- SBEGIN and m SNEXTs send the first m frames of the plan (43_chunk_planner.md R184). -/
theorem State.walked_sbegin_snext (h : s.Inv) (checked : sessionError s = none) {m : Nat}
    (within : m ≤ s.startSession.remaining.length) :
    ∃ sent t, sent.length = m ∧ execAll (.sbegin :: List.replicate m .snext) s = .next t ∧ s.Walked sent t := by
  induction m with
  | zero =>
    obtain ⟨t, ran, walked⟩ := State.walked_sbegin h checked
    exact ⟨[], t, rfl, by simp only [List.replicate_zero, execAll, ran], walked⟩
  | succ m ih =>
    obtain ⟨sent, t, rfl, ran, walked⟩ := ih (Nat.le_of_succ_le within)
    obtain ⟨f, u, next, walked'⟩ := walked.snext within
    refine ⟨sent ++ [f], u, List.length_append, ?_, walked'⟩
    rw [List.replicate_succ', ← List.cons_append, execAll_append ran]
    simp only [execAll, next]

end

/-- Settles O43: the walk of m SNEXTs, whose plan is the session's frames; a session with no frame left is done. -/
theorem snextWalksTheSessionPlan : Obligations.SnextWalksTheSessionPlan := by
  intro s m h checked within
  obtain ⟨-, -, -, height, -⟩ := sessionError_eq_none.mp checked
  have hpos : 0 < s.height.toNat := BitVec.toNat_pos_of_ne_zero height
  have plan : s.startSession.remaining
      = sessionFrames s.cfg s.pix (profileOf s.pid) s.addr s.width.toNat s.height.toNat :=
    s.remaining_startSession hpos
  rw [← sessionFrames_length s.cfg s.pix (profileOf s.pid) s.addr _ hpos, ← plan] at within ⊢
  obtain ⟨sent, t, rfl, ran, walked⟩ := State.walked_sbegin_snext h checked within
  refine ⟨t, ran, walked.status, ?_, walked.active_iff, walked.goesOn, fun ended => ⟨?_, ?_⟩⟩
  · rw [walked.plan, List.take_left]
    exact walked.tx
  · cases sst : t.sst with
    | done => rfl
    | active => exact absurd sst ended
    | idle => exact absurd sst walked.begun
  · exact execSnext_of_refused (.inr ended)

end Sys2Proof.Machine
end

section
/-! PROOF. The family 43_chunk_planner.md, ENCBMP (R187): what the run of a whole session leaves in the registers and in PBUF. -/

namespace Sys2Proof.Machine

variable {s b u : State}

/-! ### What SNEXT leaves alone, and the end of a run -/

/-- The state `s` with all that SNEXT writes but the response taken from `u` (43_chunk_planner.md R185). -/
def State.withSent (s u : State) : State :=
  { s with
    tx := u.tx, cmdb := u.cmdb, plen := u.plen, pbuf := u.pbuf, acc := u.acc
    sst := u.sst, phase := u.phase, cchunk := u.cchunk, ccol := u.ccol }

/-- SNEXT changes nothing else. -/
theorem State.sendNext_eq_withSent (s : State) : s.sendNext = s.withSent s.sendNext := by
  rw [State.sendNext_eq]
  rfl

/-- A run that ends a session ends with one SNEXT from a state of the session. -/
theorem runSession_last {P : State → Prop} (keeps : ∀ u : State, u.sst = .active → P u → P u.sendNext) (fuel : Nat)
    (s : State) (h : P s) (active : s.sst = .active) (ended : (runSession fuel s).1.sst ≠ .active) :
    ∃ v, v.sst = .active ∧ P v ∧ (runSession fuel s).1 = v.sendNext := by
  induction fuel generalizing s with
  | zero => exact absurd active ended
  | succ fuel ih =>
    rw [runSession_active s fuel active] at ended ⊢
    by_cases next : s.sendNext.sst = .active
    · exact ih _ (keeps s active h) next ended
    · exact ⟨s, active, h, by rw [runSession_inactive _ fuel next]⟩

/-- ENCBMP when one of SBEGIN's checks fails. -/
theorem execEncbmp_of_error {e : CodecError} (h : sessionError s = some e) : execEncbmp s = raise e s := by
  rw [execEncbmp, h]

/-! ### PBUF during a session -/

/-- The length of every data payload of a profile (44_frame_builder.md R214). -/
def dataPayloadLength (c : Config) (p : Profile) : Nat :=
  1 + (packP c p (List.replicate (chunkHeight c p) 0)).length + (trailer c p).length

theorem packP_length_congr (c : Config) (p : Profile) {ps qs : List Pixel} (h : ps.length = qs.length) :
    (packP c p ps).length = (packP c p qs).length := by
  cases p <;> simp [packP, encodingOf, h]

theorem dataPayload_length (c : Config) (pix : Memory 1) (p : Profile) (wd ht col chunk : Nat) :
    (dataPayload c pix p wd ht col chunk).length = dataPayloadLength c p := by
  have packed : (packP c p (slice pix wd ht col (chunk * chunkHeight c p) (chunkHeight c p))).length
      = (packP c p (List.replicate (chunkHeight c p) 0)).length :=
    packP_length_congr c p (by rw [slice_length, List.length_replicate])
  rw [dataPayload, List.length_append, List.length_append, packed]
  rfl

/-- `b.InSession u`: `u` is a state of the session that `b` begins. The bytes past a data payload are those of the init template
once an init frame has been sent, and past both they are what they were. -/
structure State.InSession (b u : State) : Prop where
  inv : u.Inv
  begun : u.sst ≠ .idle
  same : u = b.withSent u
  beyond : ∀ a, dataPayloadLength b.cfg b.sessionProfile ≤ a → (initPayload b.cfg b.sessionProfile).length ≤ a →
    u.pbufByte a = b.pbufByte a
  template : u.phase = .data → ∀ a, dataPayloadLength b.cfg b.sessionProfile ≤ a →
    a < (initPayload b.cfg b.sessionProfile).length → u.pbufByte a = (initPayload b.cfg b.sessionProfile).getD a 0

theorem State.InSession.cfg_eq (h : b.InSession u) : u.cfg = b.cfg := (congrArg State.cfg h.same).trans rfl

theorem State.InSession.sessionProfile_eq (h : b.InSession u) : u.sessionProfile = b.sessionProfile :=
  (congrArg State.sessionProfile h.same).trans rfl

/-- A session begins in its own state. -/
theorem State.InSession.start (h : s.Inv) (checked : sessionError s = none) : s.startSession.InSession s.startSession :=
  { inv := h.startSession checked, begun := nofun, same := rfl, beyond := fun _ _ _ => rfl, template := nofun }

theorem State.InSession.chunksOf_eq (h : b.InSession u) :
    chunksOf u.cfg u.sessionProfile u.sH.toNat = chunksOf b.cfg b.sessionProfile b.sH.toNat := by
  rw [h.same]
  rfl

theorem State.InSession.nextCommandByte_of_data (h : b.InSession u) (data : u.phase = .data) {k : Nibble}
    (code : dataCode b.cfg b.sessionProfile = some k) : nextCommandByte u = k ++ b.sAddr := by
  rw [Machine.nextCommandByte_of_data data (k := k) (by rw [h.cfg_eq, h.sessionProfile_eq, code]), h.same]
  rfl

theorem State.InSession.nextPayload_of_init (h : b.InSession u) (init : u.phase = .init) :
    nextPayload u = initPayload b.cfg b.sessionProfile := by
  rw [Machine.nextPayload_of_init init, h.cfg_eq, h.sessionProfile_eq]

theorem State.InSession.nextPayload_length_of_data (h : b.InSession u) (data : u.phase = .data) :
    (nextPayload u).length = dataPayloadLength b.cfg b.sessionProfile := by
  rw [Machine.nextPayload_of_data data, dataPayload_length, h.cfg_eq, h.sessionProfile_eq]

/-- SNEXT leaves alone what the session has left alone so far. -/
theorem State.InSession.same_sendNext (h : b.InSession u) : u.sendNext = b.withSent u.sendNext := by
  calc u.sendNext = u.withSent u.sendNext := u.sendNext_eq_withSent
    _ = (b.withSent u).withSent u.sendNext := congrArg (·.withSent u.sendNext) h.same

/-- A session goes on with each SNEXT. -/
theorem State.InSession.sendNext (active : u.sst = .active) (h : b.InSession u) : b.InSession u.sendNext := by
  refine ⟨h.inv.sendNext active, State.sendNext_sst_ne_idle active, h.same_sendNext, fun a past beyond => ?beyond,
    fun _ a past within => ?template⟩ <;> rw [State.pbufByte_sendNext] <;> cases phase : u.phase
  case beyond.init =>
    rw [h.nextPayload_of_init phase, if_neg (Nat.not_lt_of_le beyond), h.beyond a past beyond]
  case beyond.data =>
    rw [h.nextPayload_length_of_data phase, if_neg (Nat.not_lt_of_le past), h.beyond a past beyond]
  case template.init =>
    rw [h.nextPayload_of_init phase, if_pos within]
  case template.data =>
    rw [h.nextPayload_length_of_data phase, if_neg (Nat.not_lt_of_le past), h.template phase a past within]

/-! ### The end of a session -/

/-- The frame that ends a session is the data frame of the last column of the last chunk (43_chunk_planner.md R184). -/
theorem State.ends_iff (active : u.sst = .active) :
    u.sendNext.sst ≠ .active ↔ u.phase = .data ∧ u.sW.toNat ≤ u.ccol.toNat + 1
      ∧ u.cchunk.toNat + 1 = chunksOf u.cfg u.sessionProfile u.sH.toNat := by
  rw [State.sendNext_eq]
  cases phase : u.phase with
  | init => simp [State.advance_of_init phase, active]
  | data => simp [State.advance_of_data active phase rfl rfl]

/-- The payload of a session's last frame. -/
theorem State.InSession.nextPayload_of_ends (h : b.InSession u) (active : u.sst = .active)
    (ended : u.sendNext.sst ≠ .active) :
    nextPayload u = dataPayload b.cfg b.pix b.sessionProfile b.sW.toNat b.sH.toNat (b.sW.toNat - 1)
      (chunksOf b.cfg b.sessionProfile b.sH.toNat - 1) := by
  obtain ⟨data, lastCol, lastChunk⟩ := (State.ends_iff active).mp ended
  obtain ⟨-, col, -⟩ := h.inv.atFrame active
  have hcol : u.ccol.toNat = u.sW.toNat - 1 := by omega
  have hchunk : u.cchunk.toNat = chunksOf u.cfg u.sessionProfile u.sH.toNat - 1 := by omega
  rw [Machine.nextPayload_of_data data, hcol, hchunk, h.same]
  rfl

/-- What the SNEXT that ends a session leaves (43_chunk_planner.md R184, R187). -/
theorem State.InSession.sendNext_of_ends (h : b.InSession u) (active : u.sst = .active)
    (ended : u.sendNext.sst ≠ .active) {k : Nibble} (code : dataCode b.cfg b.sessionProfile = some k) {pl : List Byte}
    (payload : nextPayload u = pl) :
    u.sendNext = { b with
      tx := u.sendNext.tx, cmdb := k ++ b.sAddr, plen := BitVec.ofNat 9 pl.length, pbuf := u.sendNext.pbuf
      acc := csum ((k ++ b.sAddr) :: pl), sst := .done, phase := .data
      cchunk := BitVec.ofNat 8 (chunksOf b.cfg b.sessionProfile b.sH.toNat), ccol := 0 } := by
  have next := h.sendNext active
  have finished : u.sendNext.sst = .done := by
    cases sst : u.sendNext.sst with
    | done => rfl
    | active => exact absurd sst ended
    | idle => exact absurd sst next.begun
  obtain ⟨data, chunk, col⟩ := (State.sessionInv_done finished).mp next.inv.session
  have cchunk : u.sendNext.cchunk = BitVec.ofNat 8 (chunksOf b.cfg b.sessionProfile b.sH.toNat) := by
    rw [← next.chunksOf_eq, ← chunk, BitVec.ofNat_toNat, BitVec.setWidth_eq]
  obtain ⟨lastData, -⟩ := (State.ends_iff active).mp ended
  have command := h.nextCommandByte_of_data lastData code
  rw [next.same, State.withSent]
  simp [command, payload, finished, data, cchunk, col]

/-- PBUF after the SNEXT that ends a session: the last data payload over the init template (43_chunk_planner.md R187). -/
theorem State.InSession.pbufByte_of_ends (h : b.InSession u) (active : u.sst = .active)
    (ended : u.sendNext.sst ≠ .active) (a : Nat) :
    u.sendNext.pbufByte a =
      if a < (nextPayload u).length then (nextPayload u).getD a 0
      else if a < (initPayload b.cfg b.sessionProfile).length then (initPayload b.cfg b.sessionProfile).getD a 0
      else b.pbufByte a := by
  obtain ⟨data, -⟩ := (State.ends_iff active).mp ended
  rw [State.pbufByte_sendNext]
  split
  · rfl
  · next past =>
    rw [h.nextPayload_length_of_data data, Nat.not_lt] at past
    split
    · next within => exact h.template data a past within
    · next beyond => exact h.beyond a past (Nat.le_of_not_lt beyond)

/-- ENCBMP's run sends the whole plan, ends the session and counts frameCount frames (43_chunk_planner.md R182, R187). -/
theorem runSession_startSession (h : s.Inv) (checked : sessionError s = none) :
    (runSession (sessionLength s) s.startSession).1.tx
        = s.tx ++ (sessionFrames s.cfg s.pix s.activeProfile s.addr s.width.toNat s.height.toNat).flatten
      ∧ (runSession (sessionLength s) s.startSession).1.sst ≠ .active
      ∧ (runSession (sessionLength s) s.startSession).2 = sessionLength s := by
  obtain ⟨-, -, -, height, -⟩ := sessionError_eq_none.mp checked
  have hpos : 0 < s.height.toNat := BitVec.toNat_pos_of_ne_zero height
  have plan := s.remaining_startSession hpos
  have count : s.startSession.remaining.length = sessionLength s := by
    rw [plan, sessionFrames_length _ _ _ _ _ hpos, sessionLength]
  obtain ⟨tx, left, sent⟩ := runSession_tx (P := State.Inv) (fun _ active hu => hu.sendNext active)
    (fun _ active hu => hu.atFrame active) (sessionLength s) s.startSession (h.startSession checked)
  rw [List.take_of_length_le count.le, plan] at tx
  rw [List.drop_eq_nil_of_le count.le] at left
  rw [count, Nat.min_self] at sent
  have inv : (runSession (sessionLength s) s.startSession).1.Inv := h.of_completes (.encbmp checked)
  exact ⟨tx, fun active => inv.active_iff.mp active left, sent⟩

/-- Settles O40: the run of a session sends its whole plan, and its last SNEXT sends the last data frame over the init
template. -/
theorem encbmpEmitsTheWholeSession : Obligations.EncbmpEmitsTheWholeSession := by
  refine ⟨decode_encode (i := .encbmp) rfl, fun s => ⟨fun e => execEncbmp_of_error, fun h checked => ?_⟩⟩
  obtain ⟨-, -, -, -, -, data⟩ := sessionError_eq_none.mp checked
  obtain ⟨k, code⟩ := Option.isSome_iff_exists.mp data
  obtain ⟨tx, ended, sent⟩ := runSession_startSession h checked
  have ran := execEncbmp_eq checked
  obtain ⟨v, active, hv, last⟩ :=
    runSession_last (P := s.startSession.InSession) (fun _ => .sendNext) _ _ (.start h checked) rfl ended
  rw [last] at tx ended ran
  have payload := hv.nextPayload_of_ends active ended
  have ends := hv.sendNext_of_ends active ended code payload
  have bytes := hv.pbufByte_of_ends active ended
  rw [payload] at bytes
  rw [sent] at ran
  refine ⟨_, _, _, k, _, rfl, rfl, code, rfl, ran, ?_, bytes⟩
  rw [ends, tx]
  rfl

end Sys2Proof.Machine
end

section
/-! PROOF. The family 44_frame_builder.md: the RawFrame in CMDB, PLEN and PBUF (R211), BINIT and BDATA (R212, R213), and the
data payload's layout and length (R214 to R216). -/

namespace Sys2Proof.Machine

variable {s : State}

/-! ### The data payload -/

/-- A flip-dot chunk packs 4 pixels to a byte (42_pixel_packer.md R154, R159). -/
theorem packP_length_of_twoBits {p : Profile} (h : encodingOf p = .twoBits) (c : Config) (ps : List Pixel) :
    (packP c p ps).length = (ps.length + 3) / 4 := by
  rw [packP, h]
  exact pack2_length ps _

/-- An LED chunk packs 8 pixels to a byte (42_pixel_packer.md R154, R159). -/
theorem packP_length_of_oneBit {p : Profile} (h : encodingOf p = .oneBit) (c : Config) (ps : List Pixel) :
    (packP c p ps).length = (ps.length + 7) / 8 := by
  rw [packP, h]
  exact pack1_length ps _

/-- A whole LED chunk fills its bytes (42_pixel_packer.md R159). -/
theorem packP_chunk_length_of_oneBit {p : Profile} (h : encodingOf p = .oneBit) (c : Config) {ps : List Pixel}
    (chunk : ps.length = chunkHeight c p) : (packP c p ps).length = chunkHeight c p / 8 := by
  rw [packP_length_of_oneBit h, chunk]
  rcases chunkHeight_cases c p with rows | rows <;> rw [rows]

theorem trailer_length (c : Config) (p : Profile) : (trailer c p).length = if c.trail.at p = true then 1 else 0 := by
  unfold trailer
  split <;> rfl

/-- Settles O23: the layout is the payload's definition read off per profile, and the packed chunk's length is that of a whole
chunk, whatever its pixels are. -/
theorem dataPayloadLayout : Obligations.DataPayloadLayout := by
  intro c pix p wd ht col chunk
  have whole : (List.replicate (chunkHeight c p) (0 : Pixel)).length = chunkHeight c p := List.length_replicate
  rw [dataPayload_length, dataPayloadLength, trailer_length]
  cases p with
  | fdLegacy => exact ⟨rfl, by rw [packP_length_of_twoBits rfl, whole, chunkHeight]⟩
  | fdExt => exact ⟨rfl, by rw [packP_length_of_twoBits rfl, whole, chunkHeight]⟩
  | led1 => exact ⟨rfl, by rw [packP_chunk_length_of_oneBit rfl c whole]⟩
  | led2 => exact ⟨rfl, by rw [packP_chunk_length_of_oneBit rfl c whole]⟩

/-! ### The RawFrame -/

/-- What a command that loads a RawFrame completes with (44_frame_builder.md R211 to R213). -/
theorem complete_loadRaw (s : State) (d : Datum) (k : Nibble) (pl : List Byte) :
    ∃ t, complete d (s.loadRaw (merge k s.addr) pl) = .next t
      ∧ t = { s with
          cmdb := k ++ s.addr, plen := BitVec.ofNat 9 pl.length, pbuf := t.pbuf
          rspStatus := 0, rspData := d }
      ∧ ∀ a, t.pbufByte a = if a < pl.length then pl.getD a 0 else s.pbufByte a := by
  rw [merge_eq_append]
  exact ⟨_, rfl, rfl, s.pbufByte_loadRaw _ pl⟩

/-! ### BINIT -/

theorem execBinit_of_no_code (code : s.activeCode tagInit = none) : execBinit s = raise .unknownCommand s := by
  rw [execBinit, code]

theorem execBinit_of_code {k : Nibble} (code : s.activeCode tagInit = some k) :
    execBinit s = complete (BitVec.ofNat 16 (initPayload s.cfg s.activeProfile).length) (s.buildInit k) := by
  rw [execBinit, code]

/-- Settles O21: the clauses are BINIT's two branches, and the template is loaded as a RawFrame. -/
theorem binitBuildsTheInitFrame : Obligations.BinitBuildsTheInitFrame := by
  refine ⟨decode_encode (i := .binit) rfl, fun s => ⟨fun noCode => ?refused, fun k profile code => ?built⟩⟩
  case refused => exact execBinit_of_no_code (activeCode_eq_none noCode)
  case built =>
    have built := execBinit_of_code ((activeCode_of_set tagInit profile).trans code)
    obtain ⟨t, loaded, frame⟩ := complete_loadRaw s _ k (initPayload s.cfg s.activeProfile)
    exact ⟨t, built.trans loaded, frame⟩

/-! ### BDATA -/

section

variable {chunk col : BitVec 8}

/-- The grounds of BDATA's DimensionMismatch (44_frame_builder.md R213). -/
theorem outsideBitmap_iff :
    outsideBitmap s chunk col = true ↔
      s.pvalid = 0 ∨ s.width = 0 ∨ s.height = 0 ∨ s.width.toNat ≤ col.toNat
        ∨ chunksOf s.cfg s.activeProfile s.height.toNat ≤ chunk.toNat := by
  simp only [outsideBitmap, Bool.or_eq_true, decide_eq_true_eq, or_assoc, ge_iff_le]

theorem not_outsideBitmap (profile : s.pvalid = 1) (width : s.width ≠ 0) (height : s.height ≠ 0)
    (column : col.toNat < s.width.toNat) (inside : chunk.toNat < chunksOf s.cfg s.activeProfile s.height.toNat) :
    ¬ outsideBitmap s chunk col = true := by
  have set : s.pvalid ≠ 0 := by rw [profile]; decide
  rw [outsideBitmap_iff]
  simp only [set, width, height, Nat.not_le_of_lt column, Nat.not_le_of_lt inside, or_self, not_false_eq_true]

theorem execBdata_of_outside (outside : outsideBitmap s chunk col = true) :
    execBdata chunk col s = raise .dimensionMismatch s := by
  rw [execBdata, if_pos outside]

theorem execBdata_of_code {k : Nibble} (inside : ¬ outsideBitmap s chunk col = true)
    (code : dataCode s.cfg s.activeProfile = some k) :
    execBdata chunk col s = complete (BitVec.ofNat 16 (bitmapPayload s chunk col).length)
      (s.loadRaw (merge k s.addr) (bitmapPayload s chunk col)) := by
  rw [execBdata, if_neg inside, code]

end

/-- Settles O22: the clauses are BDATA's check of the bitmap, and the payload loaded as a RawFrame; every profile has a data
code, so the other refusal does not occur. -/
theorem bdataBuildsOneDataFrame : Obligations.BdataBuildsOneDataFrame := by
  refine ⟨fun chunk col => decode_encode (i := .bdata chunk col) rfl, fun s chunk col =>
    ⟨fun outside => ?refused, fun profile width height column within => ?built⟩⟩
  case refused => exact execBdata_of_outside (outsideBitmap_iff.mpr outside)
  case built =>
    obtain ⟨k, code⟩ := Option.isSome_iff_exists.mp (dataCode_isSome s.cfg s.activeProfile)
    have built := execBdata_of_code (not_outsideBitmap profile width height column within) code
    obtain ⟨t, loaded, frame⟩ := complete_loadRaw s _ k (bitmapPayload s chunk col)
    exact ⟨k, _, t, code, rfl, built.trans loaded, frame⟩

end Sys2Proof.Machine
end

section
/-! PROOF. The family 45_frame_encoder.md, the line code: the checksum (R231), escaping and un-escaping (R230, R244 to R247), and
the shape, the length and the markers of a WireFrame (R232, R234, R245). -/

namespace Sys2Proof.Machine

/-! ### The checksum -/

/-- The XOR of a list with 0xFF folded in (45_frame_encoder.md R231). -/
theorem csum_eq_xor (l : List Byte) : csum l = 0xFF ^^^ l.foldl (fun a b => a ^^^ b) 0 :=
  foldl_xor_start l 0xFF

theorem csum_cons (b : Byte) (l : List Byte) : csum (b :: l) = b ^^^ csum l := by
  have start : csum (b :: l) = (0xFF ^^^ b) ^^^ l.foldl (fun x y => x ^^^ y) 0 := foldl_xor_start l (0xFF ^^^ b)
  rw [start, csum_eq_xor, BitVec.xor_comm 0xFF b, BitVec.xor_assoc]

theorem csum_perm {l r : List Byte} (h : l.Perm r) : csum l = csum r := by
  induction h with
  | nil => rfl
  | cons b _ ih => rw [csum_cons, csum_cons, ih]
  | swap b d l => simp only [csum_cons, ← BitVec.xor_assoc, BitVec.xor_comm]
  | trans _ _ ih1 ih2 => exact ih1.trans ih2

/-- A receiver's check: the body of a frame folds to 0xFF (45_frame_encoder.md R234). -/
theorem frameBody_foldl_xor (cmd : Byte) (pl : List Byte) :
    (frameBody cmd pl).foldl (fun a b => a ^^^ b) 0 = 0xFF := by
  rw [frameBody, List.foldl_append, csum_eq_xor, List.foldl_cons, List.foldl_nil, BitVec.xor_comm 0xFF,
    ← BitVec.xor_assoc, BitVec.xor_self, BitVec.zero_xor]

/-- Settles O31: the checksum's fold has its start moved to the end, and the frame's shape is its definition. -/
theorem wireFrameShape : Obligations.WireFrameShape :=
  ⟨csum_nil, fun l b => csum_cons b l, fun _ _ => rfl⟩

/-! ### The length of an escaped list -/

/-- A byte that `esc` replaces by a pair (45_frame_encoder.md R230). -/
def isReserved (b : Byte) : Bool :=
  b == 0x7E || b == 0x7D

theorem esc_length (b : Byte) : (esc b).length = 1 + (if isReserved b = true then 1 else 0) := by
  rcases esc_cases b with ⟨rfl, -⟩ | ⟨rfl, -⟩ | ⟨notMarker, notEscape, plain⟩
  · rfl
  · rfl
  · have unreserved : isReserved b = false :=
      Bool.or_eq_false_iff.mpr ⟨beq_eq_false_iff_ne.mpr notMarker, beq_eq_false_iff_ne.mpr notEscape⟩
    rw [plain, unreserved]
    rfl

theorem escL_length (l : List Byte) : (escL l).length = l.length + l.countP isReserved := by
  induction l with
  | nil => rfl
  | cons b l ih =>
    rw [escL_cons, List.length_append, List.length_cons, List.countP_cons, esc_length, ih]
    omega

theorem wire_length (cmd : Byte) (pl : List Byte) :
    (wire cmd pl).length = 4 + pl.length + (frameBody cmd pl).countP isReserved := by
  have body : (frameBody cmd pl).length = pl.length + 2 := by simp [frameBody]
  rw [wire, List.length_append, List.length_append, escL_length, body, List.length_singleton]
  omega

/-- Settles O33: a frame is its two markers and the escaped body, and each reserved byte of the body adds one. -/
theorem frameLengthCountsTheEscapes : Obligations.FrameLengthCountsTheEscapes :=
  wire_length

/-! ### Escaping and un-escaping -/

/-- The marker is in no escaped byte, so in no escaped list (45_frame_encoder.md R244). -/
theorem marker_not_mem_escL (l : List Byte) : (0x7E : Byte) ∉ escL l := by
  simp only [escL, List.mem_flatMap, not_exists, not_and]
  intro b _
  rcases esc_cases b with ⟨-, h⟩ | ⟨-, h⟩ | ⟨notMarker, -, h⟩ <;> rw [h]
  · decide
  · decide
  · exact fun h => notMarker (List.mem_singleton.mp h).symm

/-- An unreserved byte is sent as it is (45_frame_encoder.md R230). -/
theorem esc_plain {b : Byte} (notMarker : b ≠ 0x7E) (notEscape : b ≠ 0x7D) : esc b = [b] := by
  rw [esc, if_neg notMarker, if_neg notEscape]

/-- An unreserved byte at the front is read as it is (45_frame_encoder.md R246). -/
theorem unesc_cons_plain {b : Byte} (notMarker : b ≠ 0x7E) (notEscape : b ≠ 0x7D) (l : List Byte) :
    unesc (b :: l) = (unesc l).map (fun r => b :: r) := by
  cases l with
  | nil => exact if_neg (not_or.mpr ⟨notEscape, notMarker⟩)
  | cons d t => rw [unesc, if_neg notEscape, if_neg notMarker]

/-- Un-escaping reads one escaped byte off the front (45_frame_encoder.md R246). -/
theorem unesc_esc_append (b : Byte) (l : List Byte) : unesc (esc b ++ l) = (unesc l).map (fun r => b :: r) := by
  rcases esc_cases b with ⟨rfl, -⟩ | ⟨rfl, -⟩ | ⟨notMarker, notEscape, plain⟩
  · rfl
  · rfl
  · rw [plain]
    exact unesc_cons_plain notMarker notEscape l

theorem unesc_escL (l : List Byte) : unesc (escL l) = some l := by
  induction l with
  | nil => rfl
  | cons b l ih => rw [escL_cons, unesc_esc_append, ih, Option.map_some]

/-- One step back: if `t` is its own un-escaping escaped again, so is an escaped byte before `t`. -/
theorem escL_of_map_unesc {b : Byte} {t r : List Byte} (ih : ∀ {r : List Byte}, unesc t = some r → escL r = t)
    (h : (unesc t).map (fun r => b :: r) = some r) : escL r = esc b ++ t := by
  obtain ⟨r', unescaped, rfl⟩ := Option.map_eq_some_iff.mp h
  rw [escL_cons, ih unescaped]

/-- Escaping undoes un-escaping (45_frame_encoder.md R247); the cases are those of `unesc`. -/
theorem escL_of_unesc {l r : List Byte} (h : unesc l = some r) : escL r = l := by
  fun_induction unesc l generalizing r with
  | case1 => cases h; rfl
  | case2 | case6 | case7 => cases h
  | case3 b plain =>
    obtain ⟨notEscape, notMarker⟩ := not_or.mp plain
    cases h
    rw [escL_cons, esc_plain notMarker notEscape]
    rfl
  | case4 t ih => exact escL_of_map_unesc (b := 0x7E) ih h
  | case5 t _ ih => exact escL_of_map_unesc (b := 0x7D) ih h
  | case8 b d t notEscape notMarker ih =>
    rw [escL_of_map_unesc ih h, esc_plain notMarker notEscape]
    rfl

/-- Settles O34: the marker is in no escape, and the two directions of the round trip. -/
theorem escapingIsMarkerFreeAndInvertible : Obligations.EscapingIsMarkerFreeAndInvertible :=
  ⟨marker_not_mem_escL, unesc_escL, fun _ _ => escL_of_unesc⟩

/-! ### Where a frame's markers and escapes stand -/

/-- A list without the element `m`, put between two `m`, has `m` at its ends and nowhere else. -/
theorem getElem?_between_eq_iff {m : Byte} {l : List Byte} (absent : m ∉ l) {i : Nat}
    (within : i < ([m] ++ l ++ [m]).length) :
    ([m] ++ l ++ [m])[i]? = some m ↔ i = 0 ∨ i = ([m] ++ l ++ [m]).length - 1 := by
  have length : ([m] ++ l ++ [m]).length = l.length + 2 := by simp
  rw [length] at within ⊢
  cases i with
  | zero => simp
  | succ i =>
    show (l ++ [m])[i]? = some m ↔ _
    obtain inside | last : i < l.length ∨ i = l.length := by omega
    · rw [List.getElem?_append_left inside]
      have other : l[i]? ≠ some m := fun h => absent (List.mem_of_getElem? h)
      simp only [other, false_iff]
      omega
    · simp [last]

/-- Each 0x7D of the list is followed by the second byte of an escape (45_frame_encoder.md R234). -/
def EscapesArePairs (l : List Byte) : Prop :=
  ∀ i : Nat, l[i]? = some 0x7D → l[i + 1]? = some 0x5E ∨ l[i + 1]? = some 0x5D

theorem EscapesArePairs.nil : EscapesArePairs [] :=
  fun _ h => nomatch h

theorem EscapesArePairs.cons {b : Byte} {l : List Byte} (notEscape : b ≠ 0x7D) (h : EscapesArePairs l) :
    EscapesArePairs (b :: l) := by
  intro i found
  cases i with
  | zero => exact absurd (Option.some.inj found) notEscape
  | succ i => exact h i found

theorem EscapesArePairs.pair {d : Byte} {l : List Byte} (second : d = 0x5E ∨ d = 0x5D) (h : EscapesArePairs l) :
    EscapesArePairs (0x7D :: d :: l) := by
  intro i found
  cases i with
  | zero => exact second.imp (congrArg some) (congrArg some)
  | succ i =>
    have notEscape : d ≠ 0x7D := by rcases second with rfl | rfl <;> decide
    exact h.cons notEscape i found

theorem EscapesArePairs.esc_append (b : Byte) {l : List Byte} (h : EscapesArePairs l) : EscapesArePairs (esc b ++ l) := by
  rcases esc_cases b with ⟨-, pair⟩ | ⟨-, pair⟩ | ⟨-, notEscape, plain⟩
  · rw [pair]
    exact h.pair (.inl rfl)
  · rw [pair]
    exact h.pair (.inr rfl)
  · rw [plain]
    exact h.cons notEscape

theorem EscapesArePairs.escL_append (l : List Byte) {r : List Byte} (h : EscapesArePairs r) :
    EscapesArePairs (escL l ++ r) := by
  induction l with
  | nil => exact h
  | cons b l ih =>
    rw [escL_cons, List.append_assoc]
    exact ih.esc_append b

theorem escapesArePairs_wire (cmd : Byte) (pl : List Byte) : EscapesArePairs (wire cmd pl) := by
  have notEscape : marker ≠ 0x7D := by decide
  have body := (EscapesArePairs.nil.cons notEscape).escL_append (frameBody cmd pl)
  exact body.cons notEscape

/-- Settles O32: the markers enclose a list without markers, the escapes are pairs, and XOR takes no notice of the order. -/
theorem frameMarkersStandOnlyAtTheEnds : Obligations.FrameMarkersStandOnlyAtTheEnds := by
  intro cmd pl
  refine ⟨?markers, escapesArePairs_wire cmd pl, ?atLeast, ?atMost, frameBody_foldl_xor cmd pl, ?order⟩
  case markers => exact fun _ => getElem?_between_eq_iff (marker_not_mem_escL (frameBody cmd pl))
  case atLeast =>
    rw [wire_length, Nat.add_assoc]
    exact Nat.le_add_right 4 _
  case atMost =>
    have := wire_length_le cmd pl
    omega
  case order => exact fun pl' perm => csum_perm (perm.symm.cons cmd)

end Sys2Proof.Machine
end

section
/-! PROOF. The family 45_frame_encoder.md, the commands: CSINIT, CSACC, CSBUF (R235 to R237), FOPEN, FPUT, FCLOSE (R238 to R240),
FENC (R241, R248), and that a frame built by hand is the frame FENC sends (R242). -/

namespace Sys2Proof.Machine

variable {s : State}

/-! ### The branches of the commands -/

theorem execCsinit_of_opened (h : s.fstate = .opened) : execCsinit s = raise .sequenceError s :=
  if_pos h

theorem execCsinit_of_idle (h : s.fstate = .idle) : execCsinit s = complete 0x00FF (s.setAcc 0xFF) :=
  if_neg (by simp [h])

theorem execCsacc_of_opened (imm : Byte) (h : s.fstate = .opened) : execCsacc imm s = raise .sequenceError s :=
  if_pos h

theorem execCsacc_of_idle (imm : Byte) (h : s.fstate = .idle) :
    execCsacc imm s = complete ((0 : BitVec 8) ++ (s.acc ^^^ imm)) (s.setAcc (s.acc ^^^ imm)) := by
  rw [execCsacc, if_neg (by simp [h]), datum_of_byte]

theorem execCsbuf_of_opened (h : s.fstate = .opened) : execCsbuf s = raise .sequenceError s :=
  if_pos h

theorem execCsbuf_of_idle (h : s.fstate = .idle) :
    execCsbuf s = complete ((0 : BitVec 8) ++ csum (s.cmdb :: s.payload)) (s.setAcc (csum (s.cmdb :: s.payload))) := by
  rw [execCsbuf, if_neg (by simp [h]), datum_of_byte]
  rfl

theorem execFopen_of_opened (h : s.fstate = .opened) : execFopen s = raise .sequenceError s :=
  if_pos h

theorem execFopen_of_idle (h : s.fstate = .idle) :
    execFopen s = complete 0 (((s.emit [marker]).setAcc 0xFF).setFstate .opened) :=
  if_neg (by simp [h])

theorem execFput_of_idle (imm : Byte) (h : s.fstate = .idle) : execFput imm s = raise .sequenceError s :=
  if_pos h

theorem execFput_of_opened (imm : Byte) (h : s.fstate = .opened) :
    execFput imm s =
      complete ((0 : BitVec 8) ++ (s.acc ^^^ imm)) ((s.emit (esc imm)).setAcc (s.acc ^^^ imm)) := by
  rw [execFput, if_neg (by simp [h]), datum_of_byte]

theorem execFclose_of_idle (h : s.fstate = .idle) : execFclose s = raise .sequenceError s :=
  if_pos h

theorem execFclose_of_opened (h : s.fstate = .opened) :
    execFclose s = complete ((0 : BitVec 8) ++ s.acc) ((s.emit (esc s.acc ++ [marker])).setFstate .idle) := by
  rw [execFclose, if_neg (by simp [h]), datum_of_byte]

theorem execFenc_of_opened (h : s.fstate = .opened) : execFenc s = raise .sequenceError s :=
  if_pos h

theorem execFenc_of_empty (framer : s.fstate = .idle) (empty : s.plen = 0) (data : requiresData s s.cmdb = true) :
    execFenc s = raise .emptyPayload s := by
  rw [execFenc, if_neg (by simp [framer]), if_pos ⟨empty, data⟩]

theorem execFenc_of_payload (framer : s.fstate = .idle) (payload : ¬ (s.plen = 0 ∧ requiresData s s.cmdb = true)) :
    execFenc s = complete (BitVec.ofNat 16 s.rawFrameLength) s.sendRaw := by
  rw [execFenc, if_neg (by simp [framer]), if_neg payload]

/-- FENC's data-command test, as the rule writes it (45_frame_encoder.md R248). -/
theorem requiresData_iff {b : Byte} :
    requiresData s b = true ↔
      s.pvalid = 1 ∧ code s.cfg (profileOf s.pid) (dataTag (profileOf s.pid)) = some (codeNibble b) := by
  rw [requiresData, Bool.and_eq_true, beq_iff_eq, beq_iff_eq, dataCode]

/-! ### Runs of commands -/

/-- A run whose first command completes goes on from the state it leaves (20_memory.md R79). -/
theorem execAll_cons {i : Instr} {is : List Instr} {d : Datum} {u : State} (h : exec i s = complete d u) :
    execAll (i :: is) s = execAll is (u.respond statusOk d) :=
  execAll_append (is := [i]) (by rw [execAll, h]; rfl)

/-! ### The checksum commands -/

/-- Settles O24: CSINIT's two branches; it leaves the framer idle, so that it completes again. -/
theorem csinitStartsTheAccumulator : Obligations.CsinitStartsTheAccumulator :=
  ⟨decode_encode (i := .csinit) rfl, fun _ => ⟨execCsinit_of_opened, fun framer =>
    ⟨execCsinit_of_idle framer, execCsinit_of_idle framer⟩⟩⟩

/-- Settles O25: CSACC's two branches; XOR with 0 and with the same byte again leaves the accumulator. -/
theorem csaccFoldsOneByte : Obligations.CsaccFoldsOneByte := by
  refine ⟨fun imm => decode_encode (i := .csacc imm) rfl, fun s imm =>
    ⟨execCsacc_of_opened imm, fun framer => ⟨execCsacc_of_idle imm framer, ?neutral, ?cancels⟩⟩⟩
  case neutral =>
    have ran := execCsacc_of_idle 0 framer
    rw [show s.acc ^^^ 0 = s.acc from BitVec.xor_zero] at ran
    exact ran
  case cancels =>
    have cancel : s.acc ^^^ imm ^^^ imm = s.acc := by rw [BitVec.xor_assoc, BitVec.xor_self, BitVec.xor_zero]
    have again := execCsacc_of_idle imm
      (s := (s.setAcc (s.acc ^^^ imm)).respond statusOk ((0 : BitVec 8) ++ (s.acc ^^^ imm))) framer
    rw [execAll_cons (i := .csacc imm) (execCsacc_of_idle imm framer), execAll_cons (i := .csacc imm) again]
    exact congrArg (fun sum => complete ((0 : BitVec 8) ++ sum) (s.setAcc sum)) cancel

/-- Settles O26: CSBUF's two branches; with no payload only the command byte is folded. -/
theorem csbufComputesTheChecksum : Obligations.CsbufComputesTheChecksum := by
  refine ⟨decode_encode (i := .csbuf) rfl, fun s => ⟨execCsbuf_of_opened, execCsbuf_of_idle, fun empty => ?_⟩⟩
  rw [empty]
  rfl

/-! ### The frame commands -/

/-- Settles O27: FOPEN's two branches. -/
theorem fopenOpensAFrame : Obligations.FopenOpensAFrame :=
  ⟨decode_encode (i := .fopen) rfl, fun _ => ⟨execFopen_of_opened, execFopen_of_idle⟩⟩

/-- Settles O28: FPUT's two branches. -/
theorem fputSendsOneEscapedByte : Obligations.FputSendsOneEscapedByte :=
  ⟨fun imm => decode_encode (i := .fput imm) rfl, fun _ imm => ⟨execFput_of_idle imm, execFput_of_opened imm⟩⟩

/-- Settles O29: FCLOSE's two branches. -/
theorem fcloseSendsTheChecksum : Obligations.FcloseSendsTheChecksum := by
  refine ⟨decode_encode (i := .fclose) rfl, fun s => ⟨execFclose_of_idle, fun framer => ?_⟩⟩
  rw [List.append_assoc]
  exact execFclose_of_opened framer

/-- Settles O30: FENC's three branches, whose second check is the data-command test. -/
theorem fencSendsTheRawFrame : Obligations.FencSendsTheRawFrame := by
  refine ⟨decode_encode (i := .fenc) rfl, fun s => ⟨execFenc_of_opened, fun framer empty profile code => ?empty,
    fun framer payload => ?sent⟩⟩
  case empty => exact execFenc_of_empty framer empty (requiresData_iff.mpr ⟨profile, code⟩)
  case sent => exact execFenc_of_payload framer fun h => payload (h.imp_right requiresData_iff.mp)

/-! ### A frame built by hand -/

/-- The rest of an open frame: an FPUT for each byte, and FCLOSE (45_frame_encoder.md R239, R240). -/
theorem execAll_fputs_fclose {bytes : List Byte} {sum : Byte} (framer : s.fstate = .opened)
    (folded : bytes.foldl (fun a b => a ^^^ b) s.acc = sum) :
    execAll (bytes.map .fput ++ [.fclose]) s = .next { s with
      tx := s.tx ++ (escL (bytes ++ [sum]) ++ [marker]), acc := sum, fstate := .idle
      rspStatus := statusOk, rspData := (0 : BitVec 8) ++ sum } := by
  induction bytes generalizing s with
  | nil =>
    rw [List.map_nil, List.nil_append, execAll_cons (i := .fclose) (execFclose_of_opened framer), ← folded,
      List.nil_append, escL_cons, escL_nil, List.append_nil]
    rfl
  | cons b bytes ih =>
    have tx : s.tx ++ esc b ++ (escL (bytes ++ [sum]) ++ [marker]) = s.tx ++ (escL (b :: bytes ++ [sum]) ++ [marker]) := by
      rw [List.cons_append, escL_cons, List.append_assoc, List.append_assoc]
    have rest := ih (s := ((s.emit (esc b)).setAcc (s.acc ^^^ b)).respond statusOk ((0 : BitVec 8) ++ (s.acc ^^^ b)))
      framer folded
    rw [List.map_cons, List.cons_append, execAll_cons (i := .fput b) (execFput_of_opened b framer), rest, ← tx]
    rfl

/-- FOPEN, the FPUTs and FCLOSE send one whole frame, and answer its checksum (45_frame_encoder.md R242). -/
theorem execAll_frameCommands (cmd : Byte) (pl : List Byte) (framer : s.fstate = .idle) :
    execAll (frameCommands (cmd :: pl)) s = .next { s with
      tx := s.tx ++ wire cmd pl, acc := csum (cmd :: pl)
      rspStatus := statusOk, rspData := (0 : BitVec 8) ++ csum (cmd :: pl) } := by
  have tx : s.tx ++ wire cmd pl = s.tx ++ [marker] ++ (escL (frameBody cmd pl) ++ [marker]) := by
    simp only [wire, List.append_assoc]
  have rest := execAll_fputs_fclose (bytes := cmd :: pl) (sum := csum (cmd :: pl))
    (s := (((s.emit [marker]).setAcc 0xFF).setFstate .opened).respond statusOk 0) rfl rfl
  rw [frameCommands, List.append_assoc, List.singleton_append, execAll_cons (i := .fopen) (execFopen_of_idle framer), rest, tx,
    ← framer]
  rfl

/-- Settles O35: both ways send the frame of `b0` and `bs`, FENC because that is the RawFrame it finds. -/
theorem handBuiltFrameEqualsFenc : Obligations.HandBuiltFrameEqualsFenc := by
  intro s b0 bs framer
  refine ⟨_, execAll_frameCommands b0 bs framer, rfl, ?_⟩
  rintro u idle rfl rfl supplied
  have payload : ¬ (u.plen = 0 ∧ requiresData u u.cmdb = true) := by
    rintro ⟨empty, data⟩
    rcases supplied with nonempty | noData
    · exact nonempty (by rw [empty]; rfl)
    · exact absurd data (by rw [noData]; decide)
  exact ⟨_, execFenc_of_payload idle payload, rfl, rfl, idle.trans framer.symm⟩

end Sys2Proof.Machine
end

section
/-! PROOF. The family 46_host_access.md: NOP (R270), the registers by WREG and RREG (R271 to R273), the pixels by WPIX and RPIX
(R274, R275), the payload bytes by WPB, RPB, PAPP and PCLR (R276 to R279), and SRST (R280). -/

namespace Sys2Proof.Machine

/-! ### Fields of a datum -/

/-- The low bits of a datum, shown in a datum, are the datum under their mask. -/
theorem datum_low_eq_and (d : Datum) {n : Nat} (fits : n ≤ 16) :
    (d.setWidth n).setWidth 16 = d &&& BitVec.ofNat 16 (2 ^ n - 1) := by
  apply BitVec.eq_of_toNat_eq
  have mask : (BitVec.ofNat 16 (2 ^ n - 1)).toNat = 2 ^ n - 1 := by
    have : 2 ^ n ≤ 2 ^ 16 := Nat.pow_le_pow_right (by decide) fits
    rw [BitVec.toNat_ofNat, Nat.mod_eq_of_lt (by omega)]
  rw [BitVec.toNat_and, mask, Nat.and_two_pow_sub_one_eq_mod, BitVec.toNat_setWidth, BitVec.toNat_setWidth,
    Nat.mod_eq_of_lt]
  exact (Nat.mod_le _ _).trans_lt d.isLt

/-- A datum of a narrow value is its low bits. -/
theorem datum_low_of_lt {d : Datum} {n : Nat} (narrow : d.toNat < 2 ^ n) : (d.setWidth n).setWidth 16 = d := by
  apply BitVec.eq_of_toNat_eq
  rw [BitVec.toNat_setWidth, BitVec.toNat_setWidth, Nat.mod_eq_of_lt narrow, Nat.mod_eq_of_lt d.isLt]

/-- PROFILE keeps the bits of PVALID and PID of a datum, and no other (10_state.md R34). -/
theorem profileWord_of_datum (d : Datum) : profileWord (d.extractLsb' 7 1) (d.extractLsb' 0 2) = d &&& 0x0083 := by
  have valid : (d.extractLsb' 7 1).setWidth 16 <<< 7 = d &&& 0x0080 := by
    ext i hi
    interval_cases i <;> simp
  have pid : (d.extractLsb' 0 2).setWidth 16 = d &&& 0x0003 := datum_low_eq_and d (n := 2) (by decide)
  rw [profileWord, valid, pid, ← BitVec.and_or_distrib_left]
  rfl

variable {s : State} {reg : BitVec 8} {r : Reg} {d : Datum}

/-! ### WREG -/

theorem execWreg_of_unassigned (unassigned : regOf reg = none) : execWreg reg d s = raise .illegalCommand s := by
  rw [execWreg, unassigned]

theorem execWreg_of_error (reg : BitVec 8) (r : Reg) {e : CodecError} (register : regOf reg = some r)
    (refused : writeReg s d r = .error e) :
    execWreg reg d s = raise e s := by
  simp only [execWreg, register, refused]

/-- WREG that passes its check answers what the register `r` then reads as (46_host_access.md R271). -/
theorem execWreg_of_ok (reg : BitVec 8) (r : Reg) {u : State} {v : Datum} (register : regOf reg = some r)
    (written : writeReg s d r = .ok u) (shown : readReg u r = v) :
    execWreg reg d s = complete v u := by
  simp only [execWreg, register, written, shown]

theorem checkedWrite_of_above {largest : Nat} {e : CodecError} {t : State} (above : largest < d.toNat) :
    checkedWrite d largest e t = .error e :=
  if_pos above

theorem checkedWrite_of_within {largest : Nat} {e : CodecError} {t : State} (within : d.toNat ≤ largest) :
    checkedWrite d largest e t = .ok t :=
  checkedWrite_eq_ok.mpr ⟨within, rfl⟩

/-- The registers numbered from 7 on are read-only (10_state.md R51, 46_host_access.md R271). -/
theorem writeReg_of_readOnly (number : 7 ≤ reg.toNat) (register : regOf reg = some r) :
    writeReg s d r = .error .illegalCommand := by
  have listed : r ∈ registerMap.drop 7 := by
    refine List.mem_of_getElem? (i := reg.toNat - 7) ?_
    rw [List.getElem?_drop, Nat.add_sub_of_le number]
    exact register
  simp only [registerMap, List.drop_succ_cons, List.drop_zero, List.mem_cons, List.not_mem_nil, or_false] at listed
  rcases listed with rfl | rfl | rfl | rfl | rfl | rfl | rfl | rfl <;> rfl

/-- WREG refuses every number that names no writable register. -/
theorem execWreg_of_not_writable (number : 7 ≤ reg.toNat) : execWreg reg d s = raise .illegalCommand s := by
  cases register : regOf reg with
  | none => exact execWreg_of_unassigned register
  | some r => exact execWreg_of_error reg r register (writeReg_of_readOnly number register)

/-- Settles O2: every clause is one register's check and write. PROFILE, ACC and CMDB then show the datum under a mask, ADDR and
PLEN the datum, whose check makes it narrow enough; WIDTH and HEIGHT its nine bits, since the check's bound is a parameter. -/
theorem wregChecksThenWritesTheRegister : Obligations.WregChecksThenWritesTheRegister := by
  refine ⟨fun reg d => decode_encode (i := .wreg reg d) rfl, fun s d => ⟨fun _ => execWreg_of_not_writable,
    ?profile, ?addrAbove, ?addr, ?widthAbove, ?width, ?heightAbove, ?height, ?acc, ?cmdb, ?plenAbove, ?plen⟩⟩
  case profile => exact execWreg_of_ok 0x00 .profile rfl rfl (profileWord_of_datum d)
  case addrAbove => exact fun above => execWreg_of_error 0x01 .addr rfl (checkedWrite_of_above above)
  case addr =>
    exact fun within => execWreg_of_ok 0x01 .addr rfl (checkedWrite_of_within within)
      (datum_low_of_lt (Nat.lt_succ_of_le within))
  case widthAbove => exact fun above => execWreg_of_error 0x02 .width rfl (checkedWrite_of_above above)
  case width => exact fun within => execWreg_of_ok 0x02 .width rfl (checkedWrite_of_within within) rfl
  case heightAbove => exact fun above => execWreg_of_error 0x03 .height rfl (checkedWrite_of_above above)
  case height => exact fun within => execWreg_of_ok 0x03 .height rfl (checkedWrite_of_within within) rfl
  case acc => exact execWreg_of_ok 0x04 .acc rfl rfl (datum_low_eq_and d (n := 8) (by decide))
  case cmdb => exact execWreg_of_ok 0x05 .cmdb rfl rfl (datum_low_eq_and d (n := 8) (by decide))
  case plenAbove => exact fun above => execWreg_of_error 0x06 .plen rfl (checkedWrite_of_above above)
  case plen =>
    exact fun within => execWreg_of_ok 0x06 .plen rfl (checkedWrite_of_within within)
      (datum_low_of_lt (Nat.lt_of_le_of_lt within (by decide)))

/-! ### RREG -/

theorem execRreg_of_unassigned (unassigned : regOf reg = none) : execRreg reg s = raise .illegalCommand s := by
  rw [execRreg, unassigned]

theorem execRreg_of_register (reg : BitVec 8) (r : Reg) {v : Datum} (register : regOf reg = some r)
    (shown : readReg s r = v) :
    execRreg reg s = complete v s := by
  simp only [execRreg, register, shown]

/-- SESSION's fields at their places (10_state.md R43). -/
theorem sessionWord_eq (phase : Phase) (sst : SessionState) :
    sessionWord phase sst =
      (if phase = .data then 4 else 0) + (if sst = .active then 1 else if sst = .done then 2 else 0) := by
  cases phase <;> cases sst <;> rfl

/-- FSTATE's one bit (10_state.md R42). -/
theorem FramerState.bit_eq (f : FramerState) : f.bit = if f = .opened then 1 else 0 := by
  cases f <;> rfl

/-- Settles O3: each clause reads one register of the map; a narrow value stands below zero bits. -/
theorem rregAnswersEachRegister : Obligations.RregAnswersEachRegister :=
  ⟨fun reg => decode_encode (i := .rreg reg) rfl, fun s =>
    ⟨fun _ number => execRreg_of_unassigned (regOf_unassigned number),
      execRreg_of_register 0x00 .profile rfl (profileWord_eq s.pvalid s.pid),
      execRreg_of_register 0x01 .addr rfl (datum_of_nibble s.addr),
      execRreg_of_register 0x02 .width rfl (datum_of_nine s.width),
      execRreg_of_register 0x03 .height rfl (datum_of_nine s.height),
      execRreg_of_register 0x04 .acc rfl (datum_of_byte s.acc),
      execRreg_of_register 0x05 .cmdb rfl (datum_of_byte s.cmdb),
      execRreg_of_register 0x06 .plen rfl (datum_of_nine s.plen),
      execRreg_of_register 0x07 .fstate rfl s.fstate.bit_eq,
      execRreg_of_register 0x08 .session rfl (sessionWord_eq s.phase s.sst),
      execRreg_of_register 0x09 .cchunk rfl (datum_of_byte s.cchunk),
      execRreg_of_register 0x0A .ccol rfl (datum_of_byte s.ccol),
      execRreg_of_register 0x0B .sPid rfl (datum_of_pid s.sPid),
      execRreg_of_register 0x0C .sAddr rfl (datum_of_nibble s.sAddr),
      execRreg_of_register 0x0D .sW rfl (datum_of_nine s.sW),
      execRreg_of_register 0x0E .sH rfl (datum_of_nine s.sH)⟩⟩

/-! ### WPIX and RPIX -/

section
variable {row col : BitVec 8}

theorem pixelInside_iff :
    pixelInside s row col = true ↔ row.toNat < s.height.toNat ∧ col.toNat < s.width.toNat := by
  rw [pixelInside, Bool.and_eq_true, decide_eq_true_iff, decide_eq_true_iff]

/-- The refusal of WPIX and RPIX is the complement of their check (46_host_access.md R274, R275). -/
theorem not_pixelInside (outside : s.height.toNat ≤ row.toNat ∨ s.width.toNat ≤ col.toNat) :
    ¬ pixelInside s row col = true := by
  rw [pixelInside_iff]
  omega

theorem execWpix_of_outside (v : Pixel) (outside : s.height.toNat ≤ row.toNat ∨ s.width.toNat ≤ col.toNat) :
    execWpix row col v s = raise .dimensionMismatch s :=
  if_neg (not_pixelInside outside)

theorem execWpix_of_inside (v : Pixel) (inside : row.toNat < s.height.toNat ∧ col.toNat < s.width.toNat) :
    execWpix row col v s = complete ((0 : BitVec 15) ++ v) (s.storePixel (cellIndex s row col) v) := by
  rw [execWpix, if_pos (pixelInside_iff.mpr inside), datum_of_bit]

theorem execRpix_of_outside (outside : s.height.toNat ≤ row.toNat ∨ s.width.toNat ≤ col.toNat) :
    execRpix row col s = raise .dimensionMismatch s :=
  if_neg (not_pixelInside outside)

theorem execRpix_of_inside (inside : row.toNat < s.height.toNat ∧ col.toNat < s.width.toNat) :
    execRpix row col s = complete ((0 : BitVec 15) ++ s.pixCell (cellIndex s row col)) s := by
  rw [execRpix, if_pos (pixelInside_iff.mpr inside), datum_of_bit]

end

/-- Settles O4: WPIX's two branches; storing one cell leaves every other cell as it reads. -/
theorem wpixWritesOneCell : Obligations.WpixWritesOneCell :=
  ⟨fun row col v => decode_encode (i := .wpix row col v) rfl, fun s row col v =>
    ⟨execWpix_of_outside v, fun inside =>
      ⟨_, execWpix_of_inside v inside, rfl, s.pixCell_storePixel (cellIndex s row col) v⟩⟩⟩

/-- Settles O5: RPIX's two branches. -/
theorem rpixAnswersOneCell : Obligations.RpixAnswersOneCell :=
  ⟨fun row col => decode_encode (i := .rpix row col) rfl, fun _ _ _ => ⟨execRpix_of_outside, execRpix_of_inside⟩⟩

/-! ### The payload bytes -/

theorem execWpb_eq (idx byte : BitVec 8) (s : State) :
    execWpb idx byte s = complete ((0 : BitVec 8) ++ byte) (s.storePayload idx.toNat [byte]) := by
  rw [execWpb, datum_of_byte]

theorem execRpb_eq (idx : BitVec 8) (s : State) :
    execRpb idx s = complete ((0 : BitVec 8) ++ s.pbufByte idx.toNat) s := by
  rw [execRpb, datum_of_byte]

/-- An append of one byte moves PLEN by one. -/
theorem State.appendPayload_one_plen (s : State) (b : Byte) : (s.appendPayload [b]).plen = s.plen + 1 := by
  rw [State.appendPayload_plen, List.length_singleton, BitVec.ofNat_add, BitVec.ofNat_toNat, BitVec.setWidth_eq]
  rfl

theorem execPapp_of_full (imm : Byte) (full : s.plen = 256) : execPapp imm s = raise .payloadOverflow s :=
  if_pos (congrArg BitVec.toNat full)

theorem execPapp_of_room (imm : Byte) (room : s.plen ≠ 256) :
    execPapp imm s = complete ((s.plen + 1).setWidth 16) (s.appendPayload [imm]) := by
  rw [execPapp, if_neg fun full : s.plen.toNat = pMax => room (BitVec.eq_of_toNat_eq full), State.appendPayload_one_plen]

/-- Settles O6: WPB stores one byte, which leaves every other byte as it reads. -/
theorem wpbWritesOneByte : Obligations.WpbWritesOneByte :=
  ⟨fun idx byte => decode_encode (i := .wpb idx byte) rfl, fun s idx byte =>
    ⟨_, execWpb_eq idx byte s, rfl, s.pbufByte_storePayload_one idx.toNat byte⟩⟩

/-- Settles O7: RPB answers the byte whatever PLEN is. -/
theorem rpbAnswersOneByte : Obligations.RpbAnswersOneByte :=
  ⟨fun idx => decode_encode (i := .rpb idx) rfl, fun s idx => execRpb_eq idx s⟩

/-- Settles O8: PAPP's two branches; the append stores one byte at PLEN and moves PLEN by one. -/
theorem pappAppendsOneByte : Obligations.PappAppendsOneByte := by
  refine ⟨fun imm => decode_encode (i := .papp imm) rfl, fun s imm => ⟨execPapp_of_full imm, fun room => ?_⟩⟩
  refine ⟨_, execPapp_of_room imm room, ?frame, s.pbufByte_storePayload_one s.plen.toNat imm⟩
  case frame =>
    rw [← s.appendPayload_one_plen imm]
    rfl

/-- Settles O9: PCLR sets PLEN alone, so that PBUF is the same memory. -/
theorem pclrKeepsTheBytes : Obligations.PclrKeepsTheBytes :=
  ⟨decode_encode (i := .pclr) rfl, fun _ => rfl⟩

/-! ### NOP and SRST -/

/-- Settles O1: NOP completes in its own state. -/
theorem nopChangesOnlyTheResponse : Obligations.NopChangesOnlyTheResponse :=
  ⟨decode_encode (i := .nop) rfl, fun _ => rfl⟩

/-- Settles O10: SRST completes in `State.reset` with the instance, the words on CMD and TXLOG of its own state. -/
theorem srstRestoresTheResetValues : Obligations.SrstRestoresTheResetValues :=
  ⟨decode_encode (i := .srst) rfl, fun _ => rfl⟩

end Sys2Proof.Machine
end

section
/-! PROOF. The family 60_exceptions.md: every step has a next state (R300), a failed command writes the response alone (R302),
and the errors of each command (R301, R304). -/

namespace Sys2Proof.Machine

/-! ### Completion or failure -/

section
variable {s t : State} {r : Result}

theorem EndsWell.exists_next (h : EndsWell s r) : ∃ t, r = .next t := by
  rcases h with ⟨e, rfl⟩ | ⟨d, u, rfl⟩
  · exact ⟨_, rfl⟩
  · exact ⟨_, rfl⟩

/-- A nonzero status is an error's, raised in the command's own state (60_exceptions.md R302). -/
theorem EndsWell.eq_respond_of_failed (h : EndsWell s r) (answered : r = .next t) (failed : t.rspStatus ≠ 0) :
    ∃ e : CodecError, t = s.respond e.code 0 := by
  rcases h with ⟨e, rfl⟩ | ⟨d, u, rfl⟩
  · exact ⟨e, raise_eq_next.mp answered⟩
  · obtain rfl := complete_eq_next.mp answered
    exact absurd rfl failed

end

/-- Every accepted word completes or raises an error, whether it spells a command or not (30_encoding.md R105, R106). -/
theorem accept_endsWell (w : Word) (s : State) : EndsWell s (accept w s) := by
  cases decoded : decode w with
  | ok i => exact accept_of_decode_ok decoded s ▸ exec_endsWell i s
  | error e => exact accept_of_decode_error decoded s ▸ .raise ..

/-- Settles O50: a step answers its own state, or accepts a word, which completes or raises an error. -/
theorem everyStepHasANextState : Obligations.EveryStepHasANextState := by
  intro s
  rcases step_cases s with ⟨-, idle⟩ | ⟨w, rest, -, accepted⟩
  · exact ⟨s, idle⟩
  · exact accepted ▸ (accept_endsWell w _).exists_next

/-- Settles O51: the word is accepted in the state that CMD has delivered it from, and only an error leaves a nonzero status. -/
theorem failedCommandChangesOnlyTheResponse : Obligations.FailedCommandChangesOnlyTheResponse := by
  intro s t w rest hcmd ht failed
  exact (accept_endsWell w (s.setCmd rest)).eq_respond_of_failed ((step_of_cmd_cons hcmd).symm.trans ht) failed

/-! ### The errors of each command -/

/-- The result completes, or raises one of `errors` in the state `s`: `EndsWell` with the errors named. -/
def EndsWithin (errors : List CodecError) (s : State) (r : Result) : Prop :=
  (∃ e ∈ errors, r = raise e s) ∨ ∃ d t, r = complete d t

section
variable {errors : List CodecError} {s t : State} {r a b : Result}

theorem EndsWithin.raise_of_mem {e : CodecError} (listed : e ∈ errors) : EndsWithin errors s (raise e s) :=
  .inl ⟨e, listed, rfl⟩

/-- An error whose place in the list is found by evaluation. -/
theorem EndsWithin.raise {e : CodecError} (listed : errors.contains e = true := by rfl) :
    EndsWithin errors s (raise e s) :=
  .raise_of_mem (List.contains_iff_mem.mp listed)

theorem EndsWithin.complete {d : Datum} : EndsWithin errors s (complete d t) :=
  .inr ⟨d, t, rfl⟩

theorem EndsWithin.ite {p : Prop} [Decidable p] (ha : EndsWithin errors s a) (hb : EndsWithin errors s b) :
    EndsWithin errors s (if p then a else b) := by
  split
  · exact ha
  · exact hb

theorem EndsWithin.rspStatus_eq (h : EndsWithin errors s r) (answered : r = .next t) :
    t.rspStatus = 0 ∨ ∃ e ∈ errors, t.rspStatus = e.code := by
  rcases h with ⟨e, listed, rfl⟩ | ⟨d, u, rfl⟩
  · exact .inr ⟨e, listed, congrArg State.rspStatus (raise_eq_next.mp answered)⟩
  · exact .inl (congrArg State.rspStatus (complete_eq_next.mp answered))

end

/-- A checked write refuses with the error of its check. -/
theorem eq_of_checkedWrite_eq_error {d : Datum} {largest : Nat} {e e' : CodecError} {t : State}
    (refused : checkedWrite d largest e t = .error e') : e' = e := by
  by_cases within : d.toNat ≤ largest
  · cases (checkedWrite_of_within within).symm.trans refused
  · cases (checkedWrite_of_above (Nat.lt_of_not_le within)).symm.trans refused
    rfl

/-- What the check of a register write refuses with (46_host_access.md R271, R272). -/
theorem writeReg_error_mem {s : State} {d : Datum} {r : Reg} {e : CodecError} (refused : writeReg s d r = .error e) :
    e ∈ [CodecError.illegalCommand, .invalidAddress, .dimensionMismatch, .payloadOverflow] := by
  cases r with
  | profile | acc | cmdb => cases refused
  | addr | width | height | plen =>
    obtain rfl := eq_of_checkedWrite_eq_error refused
    decide
  | fstate | session | cchunk | ccol | sPid | sAddr | sW | sH =>
    cases refused
    decide

/-- What the checks of SBEGIN and ENCBMP refuse with (43_chunk_planner.md R183, R187). -/
theorem sessionError_mem {s : State} {e : CodecError} (refused : sessionError s = some e) :
    e ∈ [CodecError.sequenceError, .dimensionMismatch, .unknownCommand] := by
  unfold sessionError at refused
  split_ifs at refused
  · exact Option.some.inj refused ▸ .head _
  · exact Option.some.inj refused ▸ .tail _ (.head _)
  · exact Option.some.inj refused ▸ .tail _ (.tail _ (.head _))

/-- Every command completes or raises one of its own errors (60_exceptions.md R304). -/
theorem exec_endsWithin (i : Instr) (s : State) : EndsWithin (errorsOf i) s (exec i s) := by
  cases i with
  | nop | wpb | rpb | pclr | srst | asplit | sabort => exact .complete
  | wreg reg d =>
    show EndsWithin _ s (execWreg reg d s)
    unfold execWreg
    split
    · exact .raise
    · split
      · next refused => exact .raise_of_mem (writeReg_error_mem refused)
      · exact .complete
  | rreg reg =>
    show EndsWithin _ s (execRreg reg s)
    unfold execRreg
    split
    · exact .raise
    · exact .complete
  | wpix | rpix => exact .ite .complete .raise
  | papp | snext | csinit | csacc | csbuf | fopen | fput | fclose => exact .ite .raise .complete
  | pack2 | pack1 | fenc => exact .ite .raise (.ite .raise .complete)
  | aenc | encinit | bdata =>
    refine .ite .raise ?_
    split
    · exact .raise
    · exact .complete
  | binit =>
    show EndsWithin _ s (execBinit s)
    unfold execBinit
    split
    · exact .raise
    · exact .complete
  | sbegin =>
    show EndsWithin _ s (execSbegin s)
    unfold execSbegin
    split
    · next refused => exact .raise_of_mem (sessionError_mem refused)
    · exact .complete
  | encbmp =>
    show EndsWithin _ s (execEncbmp s)
    unfold execEncbmp
    split
    · next refused => exact .raise_of_mem (sessionError_mem refused)
    · exact .complete

/-- Settles O52: a command leaves the status of what it ends in, and a word that spells none raises IllegalCommand. -/
theorem errorsOfEachCommand : Obligations.ErrorsOfEachCommand := by
  refine ⟨fun i s t ht => (exec_endsWithin i s).rspStatus_eq ht, fun w s t e decoded ht => ?_⟩
  have raised := (accept_of_decode_error decoded s).symm.trans ht
  exact congrArg State.rspStatus (raise_eq_next.mp raised)

end Sys2Proof.Machine
end

section
/-! PROOF. The family 70_reset_and_hazards.md: the values at power-on and after SRST (R340), the invariant at power-on, and what
an open frame locks out (R345). -/

namespace Sys2Proof.Machine

/-! ### Reset -/

/-- Both memories read 0 everywhere at power-on (70_reset_and_hazards.md R340). -/
theorem State.reset_pbufByte (a : Nat) : State.reset.pbufByte a = 0x00 := Memory.read_nil a

theorem State.reset_pixCell (a : Nat) : State.reset.pixCell a = 0 := Memory.read_nil a

/-- SRST completes in every state; the response it gives is that of the reset state (46_host_access.md R280). -/
theorem exec_srst (s : State) : exec .srst s = .next s.softReset := rfl

/-- Settles O56: each register is read off `State.reset`, the memories are empty, and SRST answers the reset state with what
reset leaves alone. -/
theorem resetHoldsTheSpecsValues : Obligations.ResetHoldsTheSpecsValues :=
  ⟨rfl, rfl, rfl, rfl, rfl, rfl, rfl, rfl, State.reset_pbufByte, State.reset_pixCell, rfl, rfl, rfl, rfl, rfl,
    rfl, rfl, rfl, rfl, rfl, rfl, rfl, exec_srst⟩

/-- Settles O58: the device's parameters are legal, every bounded register is 0, the memories are empty, and no session has
begun. -/
theorem resetMeetsTheInvariant : Obligations.ResetMeetsTheInvariant where
  config := Config.device_legal
  width := Nat.zero_le _
  height := Nat.zero_le _
  plen := Nat.zero_le _
  pbuf := Memory.wf_nil _
  pix := Memory.wf_nil _
  shadowWidth := Nat.zero_le _
  shadowHeight := Nat.zero_le _
  session := (State.sessionInv_idle rfl).mpr ⟨rfl, rfl, rfl⟩
  response := fun _ => rfl

/-! ### Framer hazards -/

section
variable {i : Instr} {s : State}

/-- Each command that an open frame locks out checks for one first (70_reset_and_hazards.md R345). -/
theorem exec_of_locked (opened : s.fstate = .opened) (locked : lockedByOpenFrame i = true) :
    exec i s = raise .sequenceError s := by
  cases i with
  | fopen => exact execFopen_of_opened opened
  | fenc => exact execFenc_of_opened opened
  | sbegin => exact execSbegin_of_error (sessionError_of_opened opened)
  | snext => exact execSnext_of_refused (.inl opened)
  | encbmp => exact execEncbmp_of_error (sessionError_of_opened opened)
  | encinit => exact execEncinit_of_opened opened
  | csinit => exact execCsinit_of_opened opened
  | csacc imm => exact execCsacc_of_opened imm opened
  | csbuf => exact execCsbuf_of_opened opened
  | _ => cases locked

/-- The two commands that need an open frame check for one first (60_exceptions.md R301). -/
theorem exec_of_no_frame (idle : s.fstate = .idle) (needs : (∃ imm, i = .fput imm) ∨ i = .fclose) :
    exec i s = raise .sequenceError s := by
  rcases needs with ⟨imm, rfl⟩ | rfl
  · exact execFput_of_idle imm idle
  · exact execFclose_of_idle idle

end

/-- Settles O36: the refusals are SequenceError's, whose code is 6. -/
theorem openFrameLocksOutFramingCommands : Obligations.OpenFrameLocksOutFramingCommands :=
  fun _ _ => ⟨exec_of_locked, exec_of_no_frame⟩

end Sys2Proof.Machine
end
